-- ==== Sys2Proof/Word.lean ====
section
/-! DEFINITION. Bytes, the 8-byte payload and the 13-byte wire frame (spec/00_scope.md R4, spec/30_encoding.md R80). -/

namespace Sys2Proof

/-- An 8-bit unsigned value (R4). -/
abbrev Byte := BitVec 8

/-- The 8-byte data region of a frame, payload bytes 0..7 (R80). -/
structure Payload where
  b0 : Byte
  b1 : Byte
  b2 : Byte
  b3 : Byte
  b4 : Byte
  b5 : Byte
  b6 : Byte
  b7 : Byte
deriving DecidableEq, Repr

/-- The 13-byte wire frame with the layout of R80: START, ADDR, CMD, LEN, PAYLOAD, CK. -/
structure Frame where
  start : Byte
  addr : Byte
  cmd : Byte
  len : Byte
  payload : Payload
  ck : Byte
deriving DecidableEq, Repr

/-- Eight zero bytes. -/
def Payload.zero : Payload := ⟨0, 0, 0, 0, 0, 0, 0, 0⟩

/-- Thirteen zero bytes. -/
def Frame.zero : Frame := ⟨0, 0, 0, 0, Payload.zero, 0⟩

end Sys2Proof
end

