-- ==== Sys2Proof/Config.lean ====
section
/-! DEFINITION. The implementation parameters of spec/00_scope.md R3 and the command map of spec/30_encoding.md R86.
Rows marked fixed are constants; rows marked parameter are the fields of `Params`, which State holds, with the
defaults the spec names (log entries 1 to 4). -/

namespace Sys2Proof

namespace Config

/-- `FRAME_LEN`, fixed. -/
def frameLen : Nat := 13
/-- `LENGTH_BYTE`, fixed. -/
def lengthByte : Byte := 0x08
/-- `BACKOFF_MS`, fixed. -/
def backoffMs : Nat := 200
/-- `RETRIES_DEFAULT`, fixed. -/
def retriesDefault : Byte := 3
/-- `WIRELESS_CELL_PAGES`, fixed. -/
def wirelessCellPages : Nat := 16
/-- `WIRELESS_TEMP_PAGES`, fixed. -/
def wirelessTempPages : Nat := 3
/-- `VOLT_ITEM_WIDTH`, fixed. -/
def voltItemWidth : Nat := 2
/-- `TEMP_ITEM_WIDTH`, fixed. -/
def tempItemWidth : Nat := 1
/-- `BAL_MIN_WIDTH`, fixed. -/
def balMinWidth : Nat := 48
/-- `MAX_FRAMES`, decided (D9): the reply buffer's capacity. -/
def maxFrames : Nat := 255

end Config

/-- The wire commands of R86, in its order. -/
inductive WireCmd where
  | status | soc | cellRange | tempRange | mosfet | cellVoltages | temperatures | balancing | faults
  | setChargeMos | setDischargeMos | setSoc | restart
deriving DecidableEq, Repr

/-- The thirteen commands, in the order of R86. -/
def WireCmd.all : List WireCmd :=
  [.status, .soc, .cellRange, .tempRange, .mosfet, .cellVoltages, .temperatures, .balancing, .faults,
   .setChargeMos, .setDischargeMos, .setSoc, .restart]

/-- The command bytes `CMD_*`: each is a parameter (R86). -/
structure CmdMap where
  status : Byte
  soc : Byte
  cellRange : Byte
  tempRange : Byte
  mosfet : Byte
  cellVoltages : Byte
  temperatures : Byte
  balancing : Byte
  faults : Byte
  setChargeMos : Byte
  setDischargeMos : Byte
  setSoc : Byte
  restart : Byte
deriving DecidableEq, Repr

/-- The byte a map gives a command. -/
def CmdMap.byte (m : CmdMap) : WireCmd → Byte
  | .status => m.status
  | .soc => m.soc
  | .cellRange => m.cellRange
  | .tempRange => m.tempRange
  | .mosfet => m.mosfet
  | .cellVoltages => m.cellVoltages
  | .temperatures => m.temperatures
  | .balancing => m.balancing
  | .faults => m.faults
  | .setChargeMos => m.setChargeMos
  | .setDischargeMos => m.setDischargeMos
  | .setSoc => m.setSoc
  | .restart => m.restart

/-- The defaults of R86, marked there as general knowledge (log entry 1). -/
def CmdMap.default : CmdMap where
  status := 0x94
  soc := 0x90
  cellRange := 0x91
  tempRange := 0x92
  mosfet := 0x93
  cellVoltages := 0x95
  temperatures := 0x96
  balancing := 0x97
  faults := 0x98
  setChargeMos := 0xDA
  setDischargeMos := 0xD9
  setSoc := 0x21
  restart := 0x00

/-- No two commands share a byte: what reading a command byte back needs. -/
abbrev CmdMap.Distinct (m : CmdMap) : Prop := (WireCmd.all.map m.byte).Nodup

/-- Parity of the serial line (`LINE_PARITY` is none, R3). -/
inductive Parity where
  | none | odd | even
deriving DecidableEq, Repr

/-- The configuration handed to the transport's open call (R66): baud, data bits, parity, stop bits, read timeout. -/
structure LineConfig where
  baud : Nat
  dataBits : Nat
  parity : Parity
  stopBits : Nat
  readTimeoutMs : Nat
deriving DecidableEq, Repr

/-- The name of a fault entry: the table's, or the placeholder that records the two indices (R243). -/
inductive FaultName where
  | named (name : String)
  | unknown (byte bit : Fin 8)
deriving DecidableEq, Repr, Inhabited

/-- One row of the fault table `FAULT_NAME(j, b)`. -/
structure FaultRow where
  byte : Fin 8
  bit : Fin 8
  name : String
deriving DecidableEq, Repr

/-- The parameter rows of R3. No step changes them. -/
structure Params where
  startByte : Byte
  addrWired : Byte
  addrWireless : Byte
  cmd : CmdMap
  readTimeoutMs : Nat
  portId : String
  cellsOffset : Fin 8
  sensorsOffset : Fin 8
  faultTable : List FaultRow
deriving DecidableEq, Repr

/-- `PORT_ID`: a parameter with no default (D42), so a free value (log entry 3). -/
opaque Config.portId : String

/-- `FAULT_NAME`: an open parameter (D26), so a free value (log entry 3). -/
opaque Config.faultTable : List FaultRow

/-- What a host read answers where the spec gives it no value (R37, R38, R76): a free value (log entry 9). -/
opaque Config.unspecifiedRead : Nat → Int

/-- What a host read of a fault name answers where the spec gives it no value (R45, R76): a free value (log entry 9). -/
opaque Config.unspecifiedName : Nat → FaultName

/-- The defaults of R3. -/
def Params.default : Params where
  startByte := 0xA5
  addrWired := 0x40
  addrWireless := 0x80
  cmd := CmdMap.default
  readTimeoutMs := 100
  portId := Config.portId
  cellsOffset := 0
  sensorsOffset := 1
  faultTable := Config.faultTable

/-- `(LINE_BAUD, LINE_DATA, LINE_PARITY, LINE_STOP, READ_TIMEOUT_MS)` (R66, R211). -/
def Params.line (p : Params) : LineConfig :=
  { baud := 9600, dataBits := 8, parity := .none, stopBits := 1, readTimeoutMs := p.readTimeoutMs }

end Sys2Proof
end

