-- ==== Sys2Proof/Machine/State.lean ====
section
/-! DEFINITION. The architectural state of spec/10_state.md, the event history of spec/20_memory.md R70, the inputs that
wait at the block's ports, and the state after reset (R45, R290). -/

namespace Sys2Proof.Machine

/-- The two address variants (`CFG.ADDR_VARIANT`, R23): wired is 0, wireless bridge is 1. -/
inductive Variant where
  | wired | wireless
deriving DecidableEq, Repr

/-- The error names of R260. -/
inductive Err where
  | transportError | shortFrame | checksumMismatch | commandMismatch | exchangeFailed | prerequisiteMissing
  | encodingError | writeError | noValidFrames | invalidArgument | bitIndexRange | notOpen | illegalOperation
deriving DecidableEq, Repr

/-- The detail names of R267. -/
inductive Detail where
  | none | readError | noData | shortRead | checksumMismatch | commandMismatch
deriving DecidableEq, Repr

/-- The exchange state machine's seven states (R40). FINISH carries how the exchange ended (R150: FINISH with an error,
or none for success). -/
inductive Fsm where
  | idle | check | drain | write | collect | backoff
  | finish (e : Option Err)
deriving DecidableEq, Repr

/-- Which host operation is running while it waits for the transport (the model's own field). A paginated query carries
the session count it read once (R218). -/
inductive Running where
  | openClosing          -- OPEN, at its TClose call
  | openOpening          -- OPEN, at its TOpen call
  | closing              -- CLOSE, at its TClose call
  | send
  | statusQuery
  | queryCells (count : Byte)
  | queryTemps (count : Byte)
  | query
  | set
deriving DecidableEq, Repr

/-- The diagnostic log port's three kinds of event (R275). -/
inductive LogEvent where
  | drainFailed (cmd : Byte)
  | shortRead (n : Nat)
  | pageIndexMismatch (exp : BitVec 9) (got : Byte)
deriving DecidableEq, Repr

/-- The events of the event history (R70). -/
inductive Event where
  | openLink (id : String) (cfg : LineConfig) (err : Bool)
  | closeLink (err : Bool)
  | drain (err : Bool)
  | write (frame : Frame) (n : Nat) (err : Bool)
  | read (m : Nat) (bytes : List Byte) (err : Bool)
  | delay (ms : Nat)
  | log (e : LogEvent)
deriving DecidableEq, Repr

/-- The environment's answer to one transport call (R66). Each call reads the parts its own answer has: `err` for open,
close and drain, `count` and `err` for write, `bytes` and `err` for read. -/
structure Answer where
  count : Nat
  bytes : List Byte
  err : Bool
deriving DecidableEq, Repr

/-- One entry of `FAULT` (R36, R243). -/
structure FaultEntry where
  byte : Fin 8
  bit : Fin 8
  name : FaultName
deriving DecidableEq, Repr

/-- The machine's state. `REPLY_COUNT`, `SERIES_LEN`, `BAL_LEN` and `FAULT_LEN` are the lengths of the four lists, which
hold nothing beyond them (R37, R38: entries beyond a length have no value). -/
structure State where
  /-- the implementation parameters (R3) -/
  params : Params
  /-- `LINK` (R22): true is OPEN -/
  link : Bool
  /-- `CFG.ADDR_VARIANT` (R23) -/
  addrVariant : Variant
  /-- `CFG.RETRIES` (R24) -/
  retries : Byte
  /-- `SESSION.VALID` (R30) -/
  sessionValid : Bool
  /-- `SESSION.STATUS` (R30) -/
  sessionStatus : Payload
  /-- `ENG.BUSY` (R35) -/
  engBusy : Bool
  /-- `ENG.ERR` (R35) -/
  engErr : Byte
  /-- `ENG.ERR_CMD` (R35) -/
  engErrCmd : Byte
  /-- `ENG.CAUSE` (R35) -/
  engCause : Byte
  /-- `ENG.DETAIL` (R35) -/
  engDetail : Byte
  /-- `ENG.WRITTEN` (R35) -/
  engWritten : Byte
  /-- `RES.CHECKSUM` (R36) -/
  resChecksum : Byte
  /-- `TXBUF` (R36) -/
  txbuf : Frame
  /-- `RES.PAYLOAD` (R36) -/
  resPayload : Payload
  /-- `RES.PAGES` (R36) -/
  resPages : Byte
  /-- `BAL[1..BAL_LEN]` (R36) -/
  bal : List Bool
  /-- `FAULT[0..FAULT_LEN-1]` (R36) -/
  fault : List FaultEntry
  /-- `REPLY[0..REPLY_COUNT-1]` (R37) -/
  reply : List Payload
  /-- `SERIES[1..SERIES_LEN]` (R38) -/
  series : List Int
  /-- `FSM` (R40) -/
  fsm : Fsm
  /-- `ATTEMPT` (R41) -/
  attempt : Byte
  /-- `R_EFF` (R41) -/
  rEff : Byte
  /-- `SLOT` (R41) -/
  slot : Byte
  /-- the model's own: the carry out of `SLOT <- SLOT + 1`, which counts past `X.N` = 255 (log entry 5) -/
  slotCarry : Bool
  /-- `LASTCAUSE` (R41) -/
  lastCause : Byte
  /-- `LASTDETAIL` (R41) -/
  lastDetail : Byte
  /-- `LASTWRITTEN` (R41) -/
  lastWritten : Byte
  /-- `X.CMD` (R41) -/
  xCmd : Byte
  /-- `X.EXTRA` (R41), 0..8 bytes -/
  xExtra : List Byte
  /-- the model's own: the latched extra bytes beyond `X.EXTRA`'s eight, which CHECK refuses (R150, log entry 6) -/
  xRest : List Byte
  /-- `X.N` (R41) -/
  xN : Byte
  /-- `RXSLOT[0..12]` (R42) -/
  rxslot : Frame
  /-- `RXLEN` (R42), 0..13 -/
  rxlen : BitVec 4
  /-- `EXP_IDX` (R43) -/
  expIdx : BitVec 9
  /-- the model's own: which operation is running -/
  running : Option Running
  /-- the model's own: operation words held at the host interface, oldest first (R295) -/
  inbox : List (List Byte)
  /-- the model's own: the transport's answers to the coming calls, in order (R66: any list is a possible environment) -/
  answers : List Answer
  /-- the model's own: reset is asserted (R292) -/
  resetLine : Bool
  /-- the event history, oldest first (R8, R70) -/
  history : List Event
  /-- the model's own: how many unspecified values the host has read (the free value's counter) -/
  draws : Nat
deriving DecidableEq, Repr

/-- Why the machine stops. -/
inductive Fault where
  /-- A byte sequence whose count disagrees with its `OPC` and `LEN` stands at the host interface, or an empty one. Raised
  by `step`. Safe: R97 says the host interface never delivers one. -/
  | malformedWord
deriving DecidableEq, Repr

/-- Why an instruction has no meaning. -/
inductive Refusal where
  /-- The instruction has no meaning in the model yet. No arm of `exec` answers this. Safe. -/
  | notModelled (mnemonic : String)
deriving DecidableEq, Repr

/-- The state right after reset with nothing placed at its ports (R45, R290). `rxslot`, `rxlen` and `expIdx` have no
value in the spec (log entry 7); the ports and the history are empty (log entry 8). -/
def State.reset : State where
  params := Params.default
  link := false
  addrVariant := .wired
  retries := Config.retriesDefault
  sessionValid := false
  sessionStatus := Payload.zero
  engBusy := false
  engErr := 0
  engErrCmd := 0
  engCause := 0
  engDetail := 0
  engWritten := 0
  resChecksum := 0
  txbuf := Frame.zero
  resPayload := Payload.zero
  resPages := 0
  bal := []
  fault := []
  reply := []
  series := []
  fsm := .idle
  attempt := 0
  rEff := 0
  slot := 0
  slotCarry := false
  lastCause := 0
  lastDetail := 0
  lastWritten := 0
  xCmd := 0
  xExtra := []
  xRest := []
  xN := 0
  rxslot := Frame.zero
  rxlen := 0
  expIdx := 1
  running := none
  inbox := []
  answers := []
  resetLine := false
  history := []
  draws := 0

end Sys2Proof.Machine
end

