-- ==== Sys2Proof/Machine/Flags.lean ====
section
/-! DEFINITION. The codes of the engine status registers (spec/60_exceptions.md R260, R266, R267) and what an operation's
end writes into them (R261, R262, spec/41_dispatcher.md R159). -/

namespace Sys2Proof.Machine

/-- The error codes of R260. -/
def errCode : Err → Byte
  | .transportError => 0x01
  | .shortFrame => 0x02
  | .checksumMismatch => 0x03
  | .commandMismatch => 0x04
  | .exchangeFailed => 0x05
  | .prerequisiteMissing => 0x06
  | .encodingError => 0x07
  | .writeError => 0x08
  | .noValidFrames => 0x09
  | .invalidArgument => 0x0A
  | .bitIndexRange => 0x0B
  | .notOpen => 0x0C
  | .illegalOperation => 0x0D

/-- The detail codes of R267. -/
def detailCode : Detail → Byte
  | .none => 0x00
  | .readError => 0x01
  | .noData => 0x02
  | .shortRead => 0x03
  | .checksumMismatch => 0x04
  | .commandMismatch => 0x05

/-- The detail a frame that fails `Decode` in a slot leaves (R157, R267). A slot's frame has 13 bytes, so `ShortFrame`
cannot occur there (R157). -/
def slotDetail : Err → Detail
  | .checksumMismatch => .checksumMismatch
  | .commandMismatch => .commandMismatch
  | _ => .none

/-- The engine status of a successful end (R261). -/
def engSuccess (s : State) : State :=
  { s with engErr := 0, engErrCmd := 0, engCause := 0, engDetail := 0, engWritten := 0 }

/-- The engine status of an end with error `e` (R262): the cause registers are written for `ExchangeFailed` as R159 says,
and as 0 for every other error. -/
def engFailure (e : Err) (s : State) : State :=
  if e = .exchangeFailed then
    { s with
      engErr := errCode e
      engErrCmd := s.xCmd
      engCause := s.lastCause
      engDetail := if s.lastCause = errCode .noValidFrames then s.lastDetail else 0
      engWritten := if s.lastCause = errCode .writeError then s.lastWritten else 0 }
  else
    { s with engErr := errCode e, engErrCmd := 0, engCause := 0, engDetail := 0, engWritten := 0 }

end Sys2Proof.Machine
end

