-- ==== Sys2Proof/Syntax.lean ====
section
/-! DEFINITION. The instructions: one constructor per row of spec/opcode_table.json. The first 16 are the host
operations of spec/30_encoding.md R95, with the operands of R96 (`LEN` is the length of the byte list, R99). The last 13
are the wire frames of R80 and R86; their operands are the row's variable fields s, a, p and k. -/

namespace Sys2Proof

inductive Instr where
  | openLink
  | closeLink
  | cfgWrite (variant retries : Byte)
  | checksum (bytes : List Byte)
  | encode (cmd : Byte) (extra : List Byte)
  | decode (expCmd : Byte) (frame : List Byte)
  | send (cmd n r : Byte) (extra : List Byte)
  | reassemble (w count : Byte)
  | planPages (kind : Byte)
  | statusQuery
  | queryCells
  | queryTemps
  | query (cmd : Byte)
  | set (cmd : Byte) (extra : List Byte)
  | decodeBalancing (p : Payload)
  | decodeFaults (p : Payload)
  | frameStatus (start addr : Byte) (p : Payload) (ck : Byte)
  | frameSoc (start addr : Byte) (p : Payload) (ck : Byte)
  | frameCellRange (start addr : Byte) (p : Payload) (ck : Byte)
  | frameTempRange (start addr : Byte) (p : Payload) (ck : Byte)
  | frameMosfet (start addr : Byte) (p : Payload) (ck : Byte)
  | frameCellVoltages (start addr : Byte) (p : Payload) (ck : Byte)
  | frameTemperatures (start addr : Byte) (p : Payload) (ck : Byte)
  | frameBalancing (start addr : Byte) (p : Payload) (ck : Byte)
  | frameFaults (start addr : Byte) (p : Payload) (ck : Byte)
  | frameSetChargeMos (start addr : Byte) (p : Payload) (ck : Byte)
  | frameSetDischargeMos (start addr : Byte) (p : Payload) (ck : Byte)
  | frameSetSoc (start addr : Byte) (p : Payload) (ck : Byte)
  | frameRestart (start addr : Byte) (p : Payload) (ck : Byte)
deriving DecidableEq, Repr

end Sys2Proof
end

