-- ==== Sys2Proof/WellFormed.lean ====
section
/-! DEFINITION. Which terms of `Instr` are operation words or wire frames: the `LEN` field is one byte, so a byte list
has at most 255 bytes (spec/30_encoding.md R96, R97). Every other operand value is encodable. -/

namespace Sys2Proof

def Instr.wellFormed : Instr → Bool
  | .openLink => true
  | .closeLink => true
  | .cfgWrite _ _ => true
  | .checksum bytes => decide (bytes.length ≤ 255)
  | .encode _ extra => decide (extra.length ≤ 255)
  | .decode _ frame => decide (frame.length ≤ 255)
  | .send _ _ _ extra => decide (extra.length ≤ 255)
  | .reassemble _ _ => true
  | .planPages _ => true
  | .statusQuery => true
  | .queryCells => true
  | .queryTemps => true
  | .query _ => true
  | .set _ extra => decide (extra.length ≤ 255)
  | .decodeBalancing _ => true
  | .decodeFaults _ => true
  | .frameStatus _ _ _ _ => true
  | .frameSoc _ _ _ _ => true
  | .frameCellRange _ _ _ _ => true
  | .frameTempRange _ _ _ _ => true
  | .frameMosfet _ _ _ _ => true
  | .frameCellVoltages _ _ _ _ => true
  | .frameTemperatures _ _ _ _ => true
  | .frameBalancing _ _ _ _ => true
  | .frameFaults _ _ _ _ => true
  | .frameSetChargeMos _ _ _ _ => true
  | .frameSetDischargeMos _ _ _ _ => true
  | .frameSetSoc _ _ _ _ => true
  | .frameRestart _ _ _ _ => true

/-- The operation words, as against the wire frames: what the host interface delivers (R95). -/
def Instr.isHostOp : Instr → Bool
  | .openLink => true
  | .closeLink => true
  | .cfgWrite _ _ => true
  | .checksum _ => true
  | .encode _ _ => true
  | .decode _ _ => true
  | .send _ _ _ _ => true
  | .reassemble _ _ => true
  | .planPages _ => true
  | .statusQuery => true
  | .queryCells => true
  | .queryTemps => true
  | .query _ => true
  | .set _ _ => true
  | .decodeBalancing _ => true
  | .decodeFaults _ => true
  | .frameStatus _ _ _ _ => false
  | .frameSoc _ _ _ _ => false
  | .frameCellRange _ _ _ _ => false
  | .frameTempRange _ _ _ _ => false
  | .frameMosfet _ _ _ _ => false
  | .frameCellVoltages _ _ _ _ => false
  | .frameTemperatures _ _ _ _ => false
  | .frameBalancing _ _ _ _ => false
  | .frameFaults _ _ _ _ => false
  | .frameSetChargeMos _ _ _ _ => false
  | .frameSetDischargeMos _ _ _ _ => false
  | .frameSetSoc _ _ _ _ => false
  | .frameRestart _ _ _ _ => false

end Sys2Proof
end

