-- ==== Sys2Proof/Decode.lean ====
section
/-! DEFINITION. Decoding and encoding of operation words (spec/30_encoding.md R95 to R97) and wire frames (R80, R86),
the pseudo-operations (R100), and the words of the opcode table. -/

namespace Sys2Proof

/-- Payload bytes 0..7 in offset order (R62). -/
def Payload.toList (p : Payload) : List Byte := [p.b0, p.b1, p.b2, p.b3, p.b4, p.b5, p.b6, p.b7]

/-- The payload whose byte `j` is `E[j]`, and zero where `E` has no byte `j`. -/
def Payload.ofList (bs : List Byte) : Payload :=
  ⟨bs.getD 0 0, bs.getD 1 0, bs.getD 2 0, bs.getD 3 0, bs.getD 4 0, bs.getD 5 0, bs.getD 6 0, bs.getD 7 0⟩

/-- The 13 bytes of a frame in wire order (R62, R80). -/
def Frame.toBytes (f : Frame) : List Byte := [f.start, f.addr, f.cmd, f.len] ++ f.payload.toList ++ [f.ck]

/-- The frame whose byte `k` is `F[k]`, and zero where `F` has no byte `k`. -/
def Frame.ofBytes (bs : List Byte) : Frame where
  start := bs.getD 0 0
  addr := bs.getD 1 0
  cmd := bs.getD 2 0
  len := bs.getD 3 0
  payload := Payload.ofList (bs.drop 4)
  ck := bs.getD 12 0

/-- The host operations of R95. -/
inductive OpKind where
  | openLink | closeLink | cfgWrite | checksum | encode | decode | send | reassemble | planPages
  | statusQuery | queryCells | queryTemps | query | set | decodeBalancing | decodeFaults
deriving DecidableEq, Repr

/-- The operation code table of R95. -/
def OpKind.opc : OpKind → Byte
  | .openLink => 0x01
  | .closeLink => 0x02
  | .cfgWrite => 0x03
  | .checksum => 0x10
  | .encode => 0x11
  | .decode => 0x12
  | .send => 0x20
  | .reassemble => 0x30
  | .planPages => 0x31
  | .statusQuery => 0x40
  | .queryCells => 0x41
  | .queryTemps => 0x42
  | .query => 0x43
  | .set => 0x44
  | .decodeBalancing => 0x50
  | .decodeFaults => 0x51

/-- The sixteen operations, in the order of R95. -/
def OpKind.all : List OpKind :=
  [.openLink, .closeLink, .cfgWrite, .checksum, .encode, .decode, .send, .reassemble, .planPages,
   .statusQuery, .queryCells, .queryTemps, .query, .set, .decodeBalancing, .decodeFaults]

/-- The operation of an `OPC`; none for the illegal values (R95). -/
def opKind? (opc : Byte) : Option OpKind := OpKind.all.find? (fun k => k.opc == opc)

/-- No operand byte. -/
def operands0 (i : Instr) : List Byte → Option Instr
  | [] => some i
  | _ :: _ => none

/-- One operand byte. -/
def operands1 (f : Byte → Instr) : List Byte → Option Instr
  | [a] => some (f a)
  | _ => none

/-- Two operand bytes. -/
def operands2 (f : Byte → Byte → Instr) : List Byte → Option Instr
  | [a, b] => some (f a b)
  | _ => none

/-- `LEN` and as many bytes as it says. -/
def operandsLen (f : List Byte → Instr) : List Byte → Option Instr
  | [] => none
  | len :: bytes => if bytes.length = len.toNat then some (f bytes) else none

/-- A command byte, and then `LEN` and its bytes. -/
def operandsCmdLen (f : Byte → List Byte → Instr) : List Byte → Option Instr
  | [] => none
  | cmd :: rest => operandsLen (f cmd) rest

/-- SEND's three bytes, and then `LEN` and its bytes. -/
def operandsSend (f : Byte → Byte → Byte → List Byte → Instr) : List Byte → Option Instr
  | cmd :: n :: r :: rest => operandsLen (f cmd n r) rest
  | _ => none

/-- `P0 .. P7`. -/
def operandsP8 (f : Payload → Instr) : List Byte → Option Instr
  | [p0, p1, p2, p3, p4, p5, p6, p7] => some (f ⟨p0, p1, p2, p3, p4, p5, p6, p7⟩)
  | _ => none

/-- The operand bytes of R96. None where their count disagrees with the operation and its `LEN`. -/
def decodeOperands : OpKind → List Byte → Option Instr
  | .openLink => operands0 .openLink
  | .closeLink => operands0 .closeLink
  | .cfgWrite => operands2 .cfgWrite
  | .checksum => operandsLen .checksum
  | .encode => operandsCmdLen .encode
  | .decode => operandsCmdLen .decode
  | .send => operandsSend .send
  | .reassemble => operands2 .reassemble
  | .planPages => operands1 .planPages
  | .statusQuery => operands0 .statusQuery
  | .queryCells => operands0 .queryCells
  | .queryTemps => operands0 .queryTemps
  | .query => operands1 .query
  | .set => operandsCmdLen .set
  | .decodeBalancing => operandsP8 .decodeBalancing
  | .decodeFaults => operandsP8 .decodeFaults

/-- What the host interface makes of a byte sequence: an operation; an undefined `OPC` (R269, whatever follows it); or no
operation word at all, its byte count disagreeing with `OPC` and `LEN` (R97: never delivered). -/
inductive Decoded where
  | op (i : Instr)
  | illegal (opc : Byte)
  | malformed
deriving DecidableEq, Repr

/-- Decode an operation word (R95 to R97). -/
def decodeOp : List Byte → Decoded
  | [] => .malformed
  | opc :: operands =>
    match opKind? opc with
    | none => .illegal opc
    | some k =>
      match decodeOperands k operands with
      | some i => .op i
      | none => .malformed

/-- How many bytes the operation word at the head of a byte sequence has (the word lengths of R96); none for an
undefined `OPC` or where the sequence ends before the `LEN` field. -/
def opWordLength (bytes : List Byte) : Option Nat :=
  match bytes with
  | [] => none
  | opc :: rest =>
    match opKind? opc with
    | none => none
    | some .cfgWrite => some 3
    | some .checksum => rest[0]?.map (fun len => 2 + len.toNat)
    | some .encode => rest[1]?.map (fun len => 3 + len.toNat)
    | some .decode => rest[1]?.map (fun len => 3 + len.toNat)
    | some .set => rest[1]?.map (fun len => 3 + len.toNat)
    | some .send => rest[3]?.map (fun len => 5 + len.toNat)
    | some .reassemble => some 3
    | some .planPages => some 2
    | some .query => some 2
    | some .decodeBalancing => some 9
    | some .decodeFaults => some 9
    | some .openLink => some 1
    | some .closeLink => some 1
    | some .statusQuery => some 1
    | some .queryCells => some 1
    | some .queryTemps => some 1

/-- The command a byte names under a command map; the first in the order of R86 where a map names one twice. -/
def wireCmd? (m : CmdMap) (b : Byte) : Option WireCmd := WireCmd.all.find? (fun c => m.byte c == b)

/-- The frame row of a command (spec/opcode_table.json, WIRE-FRAME-13). -/
def wireInstr : WireCmd → Byte → Byte → Payload → Byte → Instr
  | .status => Instr.frameStatus
  | .soc => Instr.frameSoc
  | .cellRange => Instr.frameCellRange
  | .tempRange => Instr.frameTempRange
  | .mosfet => Instr.frameMosfet
  | .cellVoltages => Instr.frameCellVoltages
  | .temperatures => Instr.frameTemperatures
  | .balancing => Instr.frameBalancing
  | .faults => Instr.frameFaults
  | .setChargeMos => Instr.frameSetChargeMos
  | .setDischargeMos => Instr.frameSetDischargeMos
  | .setSoc => Instr.frameSetSoc
  | .restart => Instr.frameRestart

/-- Read 13 bytes as a frame row: the command byte is one of the map's and the length byte is 0x08 (R80, R86). The
start, address, payload and checksum bytes are the row's variable fields. -/
def decodeWire (m : CmdMap) (bytes : List Byte) : Option Instr :=
  if bytes.length = 13 then
    let f := Frame.ofBytes bytes
    if f.len = Config.lengthByte then
      (wireCmd? m f.cmd).map (fun c => wireInstr c f.start f.addr f.payload f.ck)
    else none
  else none

/-- The bytes of a frame row. -/
def wireBytes (cmd start addr : Byte) (p : Payload) (ck : Byte) : List Byte :=
  Frame.toBytes { start := start, addr := addr, cmd := cmd, len := Config.lengthByte, payload := p, ck := ck }

/-- A byte list behind its `LEN` byte. -/
def lenBytes (bytes : List Byte) : List Byte := BitVec.ofNat 8 bytes.length :: bytes

/-- The bytes of an instruction: the operation word of R96, or the frame of R80 under a command map. -/
def encodeWith (m : CmdMap) : Instr → List Byte
  | .openLink => [OpKind.openLink.opc]
  | .closeLink => [OpKind.closeLink.opc]
  | .cfgWrite variant retries => [OpKind.cfgWrite.opc, variant, retries]
  | .checksum bytes => OpKind.checksum.opc :: lenBytes bytes
  | .encode cmd extra => OpKind.encode.opc :: cmd :: lenBytes extra
  | .decode expCmd frame => OpKind.decode.opc :: expCmd :: lenBytes frame
  | .send cmd n r extra => OpKind.send.opc :: cmd :: n :: r :: lenBytes extra
  | .reassemble w count => [OpKind.reassemble.opc, w, count]
  | .planPages kind => [OpKind.planPages.opc, kind]
  | .statusQuery => [OpKind.statusQuery.opc]
  | .queryCells => [OpKind.queryCells.opc]
  | .queryTemps => [OpKind.queryTemps.opc]
  | .query cmd => [OpKind.query.opc, cmd]
  | .set cmd extra => OpKind.set.opc :: cmd :: lenBytes extra
  | .decodeBalancing p => OpKind.decodeBalancing.opc :: p.toList
  | .decodeFaults p => OpKind.decodeFaults.opc :: p.toList
  | .frameStatus start addr p ck => wireBytes m.status start addr p ck
  | .frameSoc start addr p ck => wireBytes m.soc start addr p ck
  | .frameCellRange start addr p ck => wireBytes m.cellRange start addr p ck
  | .frameTempRange start addr p ck => wireBytes m.tempRange start addr p ck
  | .frameMosfet start addr p ck => wireBytes m.mosfet start addr p ck
  | .frameCellVoltages start addr p ck => wireBytes m.cellVoltages start addr p ck
  | .frameTemperatures start addr p ck => wireBytes m.temperatures start addr p ck
  | .frameBalancing start addr p ck => wireBytes m.balancing start addr p ck
  | .frameFaults start addr p ck => wireBytes m.faults start addr p ck
  | .frameSetChargeMos start addr p ck => wireBytes m.setChargeMos start addr p ck
  | .frameSetDischargeMos start addr p ck => wireBytes m.setDischargeMos start addr p ck
  | .frameSetSoc start addr p ck => wireBytes m.setSoc start addr p ck
  | .frameRestart start addr p ck => wireBytes m.restart start addr p ck

/-- The bytes of an instruction under the default command map. -/
def encode (i : Instr) : List Byte := encodeWith CmdMap.default i

/-- The pseudo-operations of R100. -/
inductive Pseudo where
  | socQuery | cellRangeQuery | tempRangeQuery | mosfetQuery | balancingQuery | faultQuery
  | setChargeMos (extra : List Byte)
  | setDischargeMos (extra : List Byte)
  | setSoc (extra : List Byte)
  | restart (extra : List Byte)
deriving DecidableEq, Repr

/-- Each pseudo-operation is exactly one operation (R100). -/
def Pseudo.expand (m : CmdMap) : Pseudo → Instr
  | .socQuery => .query m.soc
  | .cellRangeQuery => .query m.cellRange
  | .tempRangeQuery => .query m.tempRange
  | .mosfetQuery => .query m.mosfet
  | .balancingQuery => .query m.balancing
  | .faultQuery => .query m.faults
  | .setChargeMos extra => .set m.setChargeMos extra
  | .setDischargeMos extra => .set m.setDischargeMos extra
  | .setSoc extra => .set m.setSoc extra
  | .restart extra => .set m.restart extra

/-- `n` bytes of a word whose first byte is its least significant. -/
def littleBytes (n w : Nat) : List Byte := (List.range n).map (fun k => BitVec.ofNat 8 (w >>> (8 * k)))

/-- The 13 bytes of a 104-bit frame pattern whose byte 0 is its most significant (R80: the table numbers the frame rows
so). -/
def frameWordBytes (w : Nat) : List Byte := (littleBytes 13 w).reverse

/-- The longest operation word: SEND with `LEN` 255 (R96). -/
def longestWord : Nat := 260

/-- The operation word a table word stands for: its bytes, and zeros above `nbits`, cut where R96 ends the word. An
undefined `OPC` keeps the bytes it was given. -/
def tableOpBytes (nbits w : Nat) : List Byte :=
  let bytes := littleBytes longestWord (w % 2 ^ nbits)
  match opWordLength bytes with
  | some n => bytes.take n
  | none => bytes.take (max 1 (nbits / 8))

/-- The frame row a 104-bit table word stands for: byte 0 most significant, as the table numbers the frame rows, else
byte 0 least significant. -/
def tableFrame? (nbits w : Nat) : Option Instr :=
  if nbits = 104 then
    match decodeWire CmdMap.default (frameWordBytes w) with
    | some i => some i
    | none => decodeWire CmdMap.default (littleBytes 13 w)
  else none

/-- The instruction the decoders read from a word of the opcode table. -/
def decodeTableWord (nbits w : Nat) : Option Instr :=
  match tableFrame? nbits w with
  | some i => some i
  | none =>
    match decodeOp (tableOpBytes nbits w) with
    | .op i => some i
    | .illegal _ => none
    | .malformed => none

end Sys2Proof
end

