-- ==== Sys2Proof/Machine/Operands.lean ====
section
/-! DEFINITION. Operand and field assembly: big-endian integers, sign extension, PAD8, page items, the balancing bitmap
and fault bits (spec/00_scope.md R5, spec/30_encoding.md R83 to R85), and the register views of spec/10_state.md. -/

namespace Sys2Proof.Machine

/-- `be(B)`: the first byte is the most significant (R5, R63). -/
def be (bs : List Byte) : Nat := bs.foldl (fun acc b => acc * 256 + b.toNat) 0

/-- `sext_N(v)` for an `N`-bit value (R5). -/
def sext (n v : Nat) : Int := if v < 2 ^ (n - 1) then (v : Int) else (v : Int) - 2 ^ n

/-- `PAD8(E)` for at most 8 bytes (R83). -/
def pad8 (extra : List Byte) : Payload := Payload.ofList extra

/-- `ITEM(P, w, j)` (R84). -/
def item (p : Payload) (w j : Nat) : Int := sext (8 * w) (be ((p.toList.drop (1 + j * w)).take w))

/-- How many items a page holds: `floor(7 / w)` (R183). -/
def itemsPerPage (w : Nat) : Nat := 7 / w

/-- A page's items in order (R84, R183). -/
def pageItems (p : Payload) (w : Nat) : List Int := (List.range (itemsPerPage w)).map (item p w)

/-- `BMAP(P)` (R85). -/
def bmap (p : Payload) : Nat := be p.toList

/-- Payload byte `j`. -/
def payloadByte (p : Payload) (j : Fin 8) : Byte := p.toList.getD j.val 0

/-- The eight byte or bit indices, ascending. -/
def indices8 : List (Fin 8) := [0, 1, 2, 3, 4, 5, 6, 7]

/-- The fault bit `(j, b)`: bit `b`, the least significant being 0, of payload byte `j` (R85). -/
def faultBit (p : Payload) (j b : Fin 8) : Bool := (payloadByte p j).getLsbD b.val

/-- `ADDR(CFG.ADDR_VARIANT)` (R25). -/
def addrByte (p : Params) : Variant → Byte
  | .wired => p.addrWired
  | .wireless => p.addrWireless

/-- The value of the one-bit field `CFG.ADDR_VARIANT` (R23). -/
def variantBit : Variant → Byte
  | .wired => 0
  | .wireless => 1

/-- The variant a `VARIANT` operand selects; none above 1 (R98). -/
def variantOf? (b : Byte) : Option Variant :=
  if b = 0 then some .wired else if b = 1 then some .wireless else none

/-- `max(1, R)` on the 8-bit retry operand (R24, R152). -/
def clampRetries (r : Byte) : Byte := if r = 0 then 1 else r

/-- `SESSION.CELLS` (R31). -/
def sessionCells (s : State) : Byte := payloadByte s.sessionStatus s.params.cellsOffset

/-- `SESSION.SENSORS` (R31). -/
def sessionSensors (s : State) : Byte := payloadByte s.sessionStatus s.params.sensorsOffset

/-- `REPLY_COUNT` (R37). -/
def replyCount (s : State) : Nat := s.reply.length

/-- `SERIES_LEN` (R38). -/
def seriesLen (s : State) : Nat := s.series.length

/-- `BAL_LEN` (R36). -/
def balLen (s : State) : Nat := s.bal.length

/-- `FAULT_LEN` (R36). -/
def faultLen (s : State) : Nat := s.fault.length

end Sys2Proof.Machine
end

