-- ==== Sys2Proof/Machine/Ops.lean ====
section
/-! DEFINITION. The named operations every meaning is built from: appending events, accepting an operation, ending it
with success (spec/60_exceptions.md R261) or with an error (R262, the block's one form of exception entry; there is no
return from it, R277), clearing result registers (R263), and the block's reset (spec/70_reset_and_hazards.md R290,
R292). -/

namespace Sys2Proof.Machine

/-- Append one event to the history (R8, R70). -/
def emit (e : Event) (s : State) : State := { s with history := s.history ++ [e] }

/-- Emit on the diagnostic log port (R275). -/
def emitLog (e : LogEvent) (s : State) : State := emit (.log e) s

/-- Emit several log events in order. -/
def emitLogs (es : List LogEvent) (s : State) : State := { s with history := s.history ++ es.map Event.log }

/-- `return`: the operation ends successfully and the block is idle again (R261). -/
def complete (s : State) : State := { engSuccess s with engBusy := false, fsm := .idle, running := none }

/-- `raise e`: the operation ends with error `e` and the block is idle again (R262). -/
def raise (e : Err) (s : State) : State := { engFailure e s with engBusy := false, fsm := .idle, running := none }

/-- `REPLY_COUNT <- 0` (R153, R263). -/
def dropReply (s : State) : State := { s with reply := [] }

/-- `SERIES_LEN <- 0` (R263). -/
def dropSeries (s : State) : State := { s with series := [] }

/-- `BAL_LEN <- 0` (R263). -/
def dropBal (s : State) : State := { s with bal := [] }

/-- `SESSION.VALID <- 0; SESSION.STATUS <- 0x00 x 8` (R30). -/
def clearSession (s : State) : State := { s with sessionValid := false, sessionStatus := Payload.zero }

/-- The word of an operation issued while another runs is held at the host interface (R295). -/
def hold (i : Instr) (s : State) : State := { s with inbox := s.inbox ++ [encodeWith s.params.cmd i] }

/-- Accept an operation: `ENG.BUSY` is 1 from its acceptance to its end (R35). While another operation runs, the word is
held instead, neither lost nor refused (R295). -/
def accept (i : Instr) (body : State → State) (s : State) : Host.Outcome State Fault Refusal :=
  .next (if s.engBusy then hold i s else body { s with engBusy := true })

/-- An operation word with an undefined `OPC` writes nothing but `ENG.*` (R269). -/
def illegalOperation (s : State) : State := raise .illegalOperation s

/-- Reset: every piece of the block's state at its reset value; events already appended stay (R290, R292). What waits at
the ports is not the block's, and the parameters are fixed (log entry 8). -/
def resetBlock (s : State) : State :=
  { State.reset with
    params := s.params, inbox := s.inbox, answers := s.answers, history := s.history, draws := s.draws }

end Sys2Proof.Machine
end

