-- ==== Sys2Proof/Machine/Bitmap.lean ====
section
/-! DEFINITION. The bitmap field decoders of spec/44_field_decoders.md: DECODE_BALANCING (R240 to R242) and DECODE_FAULTS
(R243 to R245). -/

namespace Sys2Proof.Machine

/-- The bit length of `V`: 0 for 0, else one more than the index of the highest set bit (R240). -/
def bitLength (v : Nat) : Nat := if v = 0 then 0 else Nat.log2 v + 1

/-- The padded width `W = max(48, Lb)` (R240). -/
def balWidth (p : Payload) : Nat := max Config.balMinWidth (bitLength (bmap p))

/-- `Balancing(P, cells)`: cell `i` is bit `i - 1`; a cell beyond the padded width is `BitIndexRange` (R240, R242). -/
def balancing (p : Payload) (cells : Nat) : Except Err (List Bool) :=
  if cells > balWidth p then .error .bitIndexRange
  else .ok ((List.range cells).map (fun k => (bmap p).testBit k))

/-- `FAULT_NAME(j, b)`: the table's entry, if it has one. -/
def faultName? (table : List FaultRow) (j b : Fin 8) : Option String :=
  (table.find? (fun r => r.byte == j && r.bit == b)).map FaultRow.name

/-- The entry of a set bit (R243). -/
def faultEntry (table : List FaultRow) (j b : Fin 8) : FaultEntry where
  byte := j
  bit := b
  name := match faultName? table j b with
    | some n => .named n
    | none => .unknown j b

/-- `Faults(P)`: every set bit, by byte and then by bit, ascending (R243). -/
def faults (table : List FaultRow) (p : Payload) : List FaultEntry :=
  indices8.flatMap (fun j => (indices8.filter (fun b => faultBit p j b)).map (fun b => faultEntry table j b))

/-- DECODE_BALANCING (R241); on an error `BAL_LEN <- 0` (R263). -/
def execDecodeBalancing (p : Payload) (s : State) : Host.Outcome State Fault Refusal :=
  accept (.decodeBalancing p) (fun t =>
    if t.sessionValid then
      match balancing p (sessionCells t).toNat with
      | .ok flags => complete { t with bal := flags }
      | .error e => raise e (dropBal t)
    else raise .prerequisiteMissing (dropBal t)) s

/-- DECODE_FAULTS (R245). -/
def execDecodeFaults (p : Payload) (s : State) : Host.Outcome State Fault Refusal :=
  accept (.decodeFaults p) (fun t => complete { t with fault := faults t.params.faultTable p }) s

end Sys2Proof.Machine
end

