-- ==== Sys2Proof/Machine/Codec.lean ====
section
/-! DEFINITION. The frame codec of spec/40_frame_codec.md: Checksum, Encode, Decode (R110 to R118) and the operations
CHECKSUM, ENCODE and DECODE (R120 to R122). -/

namespace Sys2Proof.Machine

/-- `Checksum(B)`: the low 8 bits of the sum of the bytes (R110). -/
def checksum (bs : List Byte) : Byte := BitVec.ofNat 8 (bs.map BitVec.toNat).sum

/-- The 13-byte request frame of R112. -/
def requestFrame (p : Params) (v : Variant) (cmd : Byte) (extra : List Byte) : Frame :=
  let body := [p.startByte, addrByte p v, cmd, Config.lengthByte] ++ (pad8 extra).toList
  { start := p.startByte
    addr := addrByte p v
    cmd := cmd
    len := Config.lengthByte
    payload := pad8 extra
    ck := checksum body }

/-- `Encode(cmd, E)` (R111, R112). -/
def codecEncode (p : Params) (v : Variant) (cmd : Byte) (extra : List Byte) : Except Err Frame :=
  if extra.length > 8 then .error .encodingError else .ok (requestFrame p v cmd extra)

/-- `Decode(F, exp)`: length, then checksum, then command; start, address and length bytes are not examined (R113 to
R118). -/
def codecDecode (bytes : List Byte) (exp : Byte) : Except Err Payload :=
  if bytes.length ≠ 13 then .error .shortFrame
  else if (Frame.ofBytes bytes).ck ≠ checksum (bytes.take 12) then .error .checksumMismatch
  else if (Frame.ofBytes bytes).cmd ≠ exp then .error .commandMismatch
  else .ok (Frame.ofBytes bytes).payload

/-- CHECKSUM (R120). -/
def execChecksum (bytes : List Byte) (s : State) : Host.Outcome State Fault Refusal :=
  accept (.checksum bytes) (fun t => complete { t with resChecksum := checksum bytes }) s

/-- ENCODE (R121). -/
def execEncode (cmd : Byte) (extra : List Byte) (s : State) : Host.Outcome State Fault Refusal :=
  accept (.encode cmd extra) (fun t =>
    match codecEncode t.params t.addrVariant cmd extra with
    | .ok f => complete { t with txbuf := f }
    | .error e => raise e t) s

/-- DECODE (R122). -/
def execDecode (expCmd : Byte) (frame : List Byte) (s : State) : Host.Outcome State Fault Refusal :=
  accept (.decode expCmd frame) (fun t =>
    match codecDecode frame expCmd with
    | .ok p => complete { t with resPayload := p }
    | .error e => raise e t) s

end Sys2Proof.Machine
end

