-- ==== Sys2Proof/Machine/Reassembler.lean ====
section
/-! DEFINITION. The page reassembler and the page planner of spec/42_reassembler.md (R181 to R193) and the operations
REASSEMBLE (R180) and PLAN_PAGES (R190). -/

namespace Sys2Proof.Machine

/-- What a reassembly leaves: the series, the expected index, and the log events it emitted. -/
structure Reassembly where
  series : List Int
  expIdx : BitVec 9
  logs : List LogEvent
deriving DecidableEq, Repr

/-- One page that is looked at: its index is compared, its items are taken up to the count, the expected index goes up by
one (R181). -/
def takePage (w count : Nat) (p : Payload) (r : Reassembly) : Reassembly where
  series := r.series ++ (pageItems p w).take (count - r.series.length)
  expIdx := r.expIdx + 1
  logs := if p.b0.zeroExtend 9 = r.expIdx then r.logs else r.logs ++ [.pageIndexMismatch r.expIdx p.b0]

/-- The walk over the pages in reception order; it stops as soon as the series has `count` items (R181, R184). -/
def walkPages (w count : Nat) : List Payload → Reassembly → Reassembly
  | [], r => r
  | p :: ps, r => if r.series.length = count then r else walkPages w count ps (takePage w count p r)

/-- `Reassemble(pages, w, count)` (R181). -/
def reassemble (pages : List Payload) (w count : Nat) : Reassembly :=
  walkPages w count pages { series := [], expIdx := 1, logs := [] }

/-- Reassemble the reply buffer into the series buffer (R180, R216, R217). -/
def storeSeries (w count : Nat) (s : State) : State :=
  let r := reassemble s.reply w count
  emitLogs r.logs { s with series := r.series, expIdx := r.expIdx }

/-- What a page plan is for: the `KIND` operand of R190. -/
inductive PageKind where
  | cells | temperatures
deriving DecidableEq, Repr

/-- `ceil(a / b)` (R6). -/
def ceilDiv (a b : Nat) : Nat := (a + b - 1) / b

/-- `PagePlan(kind)` (R191). -/
def pagePlan (kind : PageKind) (s : State) : Nat :=
  match s.addrVariant, kind with
  | .wireless, .cells => Config.wirelessCellPages
  | .wireless, .temperatures => Config.wirelessTempPages
  | .wired, .cells => ceilDiv (sessionCells s).toNat (itemsPerPage Config.voltItemWidth)
  | .wired, .temperatures => ceilDiv (sessionSensors s).toNat (itemsPerPage Config.tempItemWidth)

/-- The kind a `KIND` operand selects; none above 1 (R98). -/
def pageKind? (kind : Byte) : Option PageKind :=
  if kind = 0 then some .cells else if kind = 1 then some .temperatures else none

/-- REASSEMBLE (R180): `InvalidArgument` before any other effect, and then `SERIES_LEN <- 0` (R263, R270). -/
def execReassemble (w count : Byte) (s : State) : Host.Outcome State Fault Refusal :=
  accept (.reassemble w count) (fun t =>
    if w = 1 ∨ w = 2 then complete (storeSeries w.toNat count.toNat t)
    else raise .invalidArgument (dropSeries t)) s

/-- PLAN_PAGES (R190): the operand is checked before the session (R274). -/
def execPlanPages (kind : Byte) (s : State) : Host.Outcome State Fault Refusal :=
  accept (.planPages kind) (fun t =>
    match pageKind? kind with
    | none => raise .invalidArgument t
    | some k =>
      if t.sessionValid then complete { t with resPages := BitVec.ofNat 8 (pagePlan k t) }
      else raise .prerequisiteMissing t) s

end Sys2Proof.Machine
end

