-- ==== Sys2Proof/Machine/Exchange.lean ====
section
/-! DEFINITION. The exchange state machine of spec/41_dispatcher.md R150, one definition per row of its table, the two
link operations' transport calls (spec/43_session_queries.md R211, R212), and the operation SEND (R151). -/

namespace Sys2Proof.Machine

/-- IDLE: an exchange starts. The operands are latched, the extra bytes beyond `X.EXTRA`'s eight beside it, and the attempt
bound is `max(1, R)` (R41, R150, R152). -/
def startExchange (op : Running) (cmd : Byte) (extra : List Byte) (n r : Byte) (s : State) : State :=
  { s with
    xCmd := cmd, xExtra := extra.take 8, xRest := extra.drop 8, xN := n, rEff := clampRetries r,
    fsm := .check, running := some op }

/-- CHECK (R150, R161, R268). -/
def checkStep (s : State) : State :=
  if s.link = false then { s with fsm := .finish (some .notOpen) }
  else
    match codecEncode s.params s.addrVariant s.xCmd (s.xExtra ++ s.xRest) with
    | .error e => { s with fsm := .finish (some e) }
    | .ok f => { s with txbuf := f, attempt := 1, fsm := .drain }

/-- `fail(c)`: the failure record is kept, and the machine backs off, or finishes after the last attempt (R158, R159). -/
def failAttempt (cause : Err) (detail : Byte) (written : Byte) (s : State) : State :=
  { s with
    lastCause := errCode cause
    lastDetail := detail
    lastWritten := written
    fsm := if s.attempt < s.rEff then .backoff else .finish (some .exchangeFailed) }

/-- DRAIN: a drain failure is only logged (R153). -/
def drainStep (a : Answer) (s : State) : State :=
  let s1 := emit (.drain a.err) (dropReply s)
  let s2 := if a.err then emitLog (.drainFailed s.xCmd) s1 else s1
  { s2 with fsm := .write }

/-- WRITE (R154, R165, R166). -/
def writeStep (a : Answer) (s : State) : State :=
  let s1 := emit (.write s.txbuf a.count a.err) s
  if a.err then failAttempt .transportError 0 0 s1
  else if a.count ≠ 13 then failAttempt .writeError 0 (BitVec.ofNat 8 (min a.count 255)) s1
  else { s1 with slot := 1, slotCarry := false, lastDetail := detailCode .none, fsm := .collect }

/-- The end of collection: any valid frame makes the attempt succeed (R158, R160). -/
def endCollection (s : State) : State :=
  if s.reply = [] then failAttempt .noValidFrames s.lastDetail 0 s
  else { s with fsm := .finish none }

/-- The bytes a read answer holds: at most 13 (R66). -/
def readBytes (a : Answer) : List Byte := a.bytes.take Config.frameLen

/-- `RXSLOT[0..len(B)-1] <- B; RXLEN <- len(B)`; the bytes beyond keep what they held (R155). -/
def storeSlot (bytes : List Byte) (s : State) : State :=
  { s with
    rxslot := Frame.ofBytes (bytes ++ s.rxslot.toBytes.drop bytes.length)
    rxlen := BitVec.ofNat 4 bytes.length }

/-- `SLOT` as the count it is compared as (R6): the register and its carry. -/
def slotNumber (s : State) : Nat := s.slot.toNat + if s.slotCarry then 256 else 0

/-- `SLOT > X.N`: every slot of the attempt is taken (R150). -/
def slotsTaken (s : State) : Bool := decide (s.xN.toNat < slotNumber s)

/-- `SLOT <- SLOT + 1` (R150). -/
def takeSlot (s : State) : State := { s with slot := s.slot + 1, slotCarry := decide (s.slot = 0xFF) }

/-- A slot's frame is decoded; a frame that fails is discarded and uses up the slot (R157, R167). -/
def decodeSlot (bytes : List Byte) (s : State) : State :=
  match codecDecode bytes s.xCmd with
  | .ok p => takeSlot { s with reply := s.reply ++ [p] }
  | .error e => takeSlot { s with lastDetail := detailCode (slotDetail e) }

/-- One slot (R155 to R157, R165): an error, no data or a short read ends collection. -/
def slotStep (a : Answer) (s : State) : State :=
  let bytes := readBytes a
  let s1 := storeSlot bytes (emit (.read Config.frameLen bytes a.err) s)
  if a.err then endCollection { s1 with lastDetail := detailCode .readError }
  else if bytes.length = 0 then endCollection { s1 with lastDetail := detailCode .noData }
  else if bytes.length < 13 then
    endCollection (emitLog (.shortRead bytes.length) { s1 with lastDetail := detailCode .shortRead })
  else decodeSlot bytes s1

/-- BACKOFF (R150, R158). -/
def backoffStep (s : State) : State :=
  { emit (.delay Config.backoffMs) s with attempt := s.attempt + 1, fsm := .drain }

/-- The result registers a failing exchange operation clears (R263). -/
def clearFailedExchange (s : State) : State :=
  match s.running with
  | some (.queryCells _) => dropSeries (dropReply s)
  | some (.queryTemps _) => dropSeries (dropReply s)
  | _ => dropReply s

/-- `SESSION.STATUS <- REPLY[0]; SESSION.VALID <- 1` (R214). A successful exchange has a first reply (R39). -/
def latchStatus (s : State) : State :=
  match s.reply with
  | [] => s
  | p :: _ => { s with sessionStatus := p, sessionValid := true }

/-- What the operation that ran the exchange does after its success (R210, R214, R216, R217). -/
def afterExchange (s : State) : State :=
  match s.running with
  | some .statusQuery => latchStatus s
  | some (.queryCells count) => storeSeries Config.voltItemWidth count.toNat s
  | some (.queryTemps count) => storeSeries Config.tempItemWidth count.toNat s
  | _ => s

/-- FINISH (R150, R210): the operation ends with the exchange's error, or goes on to its own last step and ends
successfully. -/
def finishStep (e : Option Err) (s : State) : State :=
  match e with
  | some err => raise err (clearFailedExchange s)
  | none => complete (afterExchange s)

/-- The answer to OPEN's TClose call; its error is ignored (R211). -/
def openClosed (a : Answer) (s : State) : State :=
  { clearSession (emit (.closeLink a.err) s) with link := false, running := some .openOpening }

/-- The answer to OPEN's TOpen call (R211). -/
def openOpened (a : Answer) (s : State) : State :=
  let s1 := emit (.openLink s.params.portId s.params.line a.err) s
  if a.err then raise .transportError s1 else complete { s1 with link := true }

/-- The answer to CLOSE's TClose call (R212). -/
def closeClosed (a : Answer) (s : State) : State :=
  let s1 := { clearSession (emit (.closeLink a.err) s) with link := false }
  if a.err then raise .transportError s1 else complete s1

/-- Take the transport's next answer, if there is one: a call that has not returned leaves the block where it is
(R66, R301). -/
def withAnswer (k : Answer → State → State) (s : State) : Option State :=
  match s.answers with
  | [] => none
  | a :: rest => some (k a { s with answers := rest })

/-- One transition of the running operation (R150); none where nothing runs or a transport call has not returned. -/
def advance (s : State) : Option State :=
  match s.fsm with
  | .idle =>
    match s.running with
    | some .openClosing => withAnswer openClosed s
    | some .openOpening => withAnswer openOpened s
    | some .closing => withAnswer closeClosed s
    | _ => none
  | .check => some (checkStep s)
  | .drain => withAnswer drainStep s
  | .write => withAnswer writeStep s
  | .collect => if slotsTaken s then some (endCollection s) else withAnswer slotStep s
  | .backoff => some (backoffStep s)
  | .finish e => some (finishStep e s)

/-- The most transitions a machine state can make before it takes an answer. -/
def phaseWeight : Fsm → Nat
  | .idle => 0
  | .finish _ => 1
  | .drain => 1
  | .write => 1
  | .check => 2
  | .backoff => 2
  | .collect => 3

/-- A bound on the transitions the answers that are lined up allow. -/
def budget (s : State) : Nat := 4 * s.answers.length + phaseWeight s.fsm

/-- Make up to `n` transitions. -/
def runFor : Nat → State → State
  | 0, s => s
  | n + 1, s =>
    match advance s with
    | none => s
    | some t => runFor n t

/-- Run the operation until it ends or waits for a transport call that has not returned (R71: to completion). -/
def settle (s : State) : State := runFor (budget s) s

/-- SEND (R151). -/
def execSend (cmd n r : Byte) (extra : List Byte) (s : State) : Host.Outcome State Fault Refusal :=
  accept (.send cmd n r extra) (fun t => settle (startExchange .send cmd extra n r t)) s

end Sys2Proof.Machine
end

