-- ==== Sys2Proof/Machine/Session.lean ====
section
/-! DEFINITION. Connection, configuration and session queries of spec/43_session_queries.md: OPEN, CLOSE, CFG_WRITE,
STATUS_QUERY, QUERY_CELLS, QUERY_TEMPS, QUERY and SET. -/

namespace Sys2Proof.Machine

/-- OPEN (R211): an open link is closed first; the session is cleared before the transport's open call. -/
def execOpen (s : State) : Host.Outcome State Fault Refusal :=
  accept .openLink (fun t =>
    if t.link then settle { t with running := some .openClosing }
    else settle { clearSession t with running := some .openOpening }) s

/-- CLOSE (R212): on a closed link there is no transport event. -/
def execClose (s : State) : Host.Outcome State Fault Refusal :=
  accept .closeLink (fun t =>
    if t.link then settle { t with running := some .closing } else complete (clearSession t)) s

/-- CFG_WRITE (R213): both fields or neither. -/
def execCfgWrite (variant retries : Byte) (s : State) : Host.Outcome State Fault Refusal :=
  accept (.cfgWrite variant retries) (fun t =>
    match variantOf? variant with
    | none => raise .invalidArgument t
    | some v => complete { t with addrVariant := v, retries := clampRetries retries }) s

/-- STATUS_QUERY (R214). -/
def execStatusQuery (s : State) : Host.Outcome State Fault Refusal :=
  accept .statusQuery (fun t => settle (startExchange .statusQuery t.params.cmd.status [] 1 t.retries t)) s

/-- A paginated query: the session is checked first (R225), the count is read once (R218), the pages are planned, and the
exchange asks for that many frames (R216, R217). -/
def paginated (kind : PageKind) (op : Byte → Running) (cmd count : Byte) (t : State) : State :=
  if t.sessionValid then
    let pages := BitVec.ofNat 8 (pagePlan kind t)
    settle (startExchange (op count) cmd [] pages t.retries { t with resPages := pages })
  else raise .prerequisiteMissing (dropSeries (dropReply t))

/-- QUERY_CELLS (R216). -/
def execQueryCells (s : State) : Host.Outcome State Fault Refusal :=
  accept .queryCells (fun t => paginated .cells .queryCells t.params.cmd.cellVoltages (sessionCells t) t) s

/-- QUERY_TEMPS (R217). -/
def execQueryTemps (s : State) : Host.Outcome State Fault Refusal :=
  accept .queryTemps (fun t => paginated .temperatures .queryTemps t.params.cmd.temperatures (sessionSensors t) t) s

/-- QUERY (R219). -/
def execQuery (cmd : Byte) (s : State) : Host.Outcome State Fault Refusal :=
  accept (.query cmd) (fun t => settle (startExchange .query cmd [] 1 t.retries t)) s

/-- SET (R220). -/
def execSet (cmd : Byte) (extra : List Byte) (s : State) : Host.Outcome State Fault Refusal :=
  accept (.set cmd extra) (fun t => settle (startExchange .set cmd extra 1 t.retries t)) s

end Sys2Proof.Machine
end

