-- ==== Sys2Proof/Machine/Wire.lean ====
section
/-! DEFINITION. The wire frames of spec/30_encoding.md R80 and R86 as the block meets them on the link. A frame that
arrives while a slot's read is waiting is that slot's 13 bytes (spec/41_dispatcher.md R155 to R157); at any other time its
bytes are left in the transport, and the block does nothing (spec/60_exceptions.md R276). The frames the block sends are
the TXBUF of an exchange (R112, R154). Log entry 10. -/

namespace Sys2Proof.Machine

/-- A slot's read is waiting for its answer: COLLECT with `SLOT <= X.N` (R150). -/
def slotWaiting (s : State) : Bool :=
  s.engBusy && decide (s.fsm = .collect) && !slotsTaken s

/-- A 13-byte frame arrives on the link. -/
def receiveFrame (bytes : List Byte) (s : State) : Host.Outcome State Fault Refusal :=
  .next (if slotWaiting s then slotStep { count := 0, bytes := bytes, err := false } s else s)

/-- A frame with command `CMD_*` of the map's `status` arrives (R80, R86, R155 to R157). -/
def execFrameStatus (start addr : Byte) (p : Payload) (ck : Byte) (s : State) : Host.Outcome State Fault Refusal :=
  receiveFrame (wireBytes s.params.cmd.status start addr p ck) s

/-- A frame with command `CMD_*` of the map's `soc` arrives (R80, R86, R155 to R157). -/
def execFrameSoc (start addr : Byte) (p : Payload) (ck : Byte) (s : State) : Host.Outcome State Fault Refusal :=
  receiveFrame (wireBytes s.params.cmd.soc start addr p ck) s

/-- A frame with command `CMD_*` of the map's `cellRange` arrives (R80, R86, R155 to R157). -/
def execFrameCellRange (start addr : Byte) (p : Payload) (ck : Byte) (s : State) : Host.Outcome State Fault Refusal :=
  receiveFrame (wireBytes s.params.cmd.cellRange start addr p ck) s

/-- A frame with command `CMD_*` of the map's `tempRange` arrives (R80, R86, R155 to R157). -/
def execFrameTempRange (start addr : Byte) (p : Payload) (ck : Byte) (s : State) : Host.Outcome State Fault Refusal :=
  receiveFrame (wireBytes s.params.cmd.tempRange start addr p ck) s

/-- A frame with command `CMD_*` of the map's `mosfet` arrives (R80, R86, R155 to R157). -/
def execFrameMosfet (start addr : Byte) (p : Payload) (ck : Byte) (s : State) : Host.Outcome State Fault Refusal :=
  receiveFrame (wireBytes s.params.cmd.mosfet start addr p ck) s

/-- A frame with command `CMD_*` of the map's `cellVoltages` arrives (R80, R86, R155 to R157). -/
def execFrameCellVoltages (start addr : Byte) (p : Payload) (ck : Byte) (s : State) : Host.Outcome State Fault Refusal :=
  receiveFrame (wireBytes s.params.cmd.cellVoltages start addr p ck) s

/-- A frame with command `CMD_*` of the map's `temperatures` arrives (R80, R86, R155 to R157). -/
def execFrameTemperatures (start addr : Byte) (p : Payload) (ck : Byte) (s : State) : Host.Outcome State Fault Refusal :=
  receiveFrame (wireBytes s.params.cmd.temperatures start addr p ck) s

/-- A frame with command `CMD_*` of the map's `balancing` arrives (R80, R86, R155 to R157). -/
def execFrameBalancing (start addr : Byte) (p : Payload) (ck : Byte) (s : State) : Host.Outcome State Fault Refusal :=
  receiveFrame (wireBytes s.params.cmd.balancing start addr p ck) s

/-- A frame with command `CMD_*` of the map's `faults` arrives (R80, R86, R155 to R157). -/
def execFrameFaults (start addr : Byte) (p : Payload) (ck : Byte) (s : State) : Host.Outcome State Fault Refusal :=
  receiveFrame (wireBytes s.params.cmd.faults start addr p ck) s

/-- A frame with command `CMD_*` of the map's `setChargeMos` arrives (R80, R86, R155 to R157). -/
def execFrameSetChargeMos (start addr : Byte) (p : Payload) (ck : Byte) (s : State) : Host.Outcome State Fault Refusal :=
  receiveFrame (wireBytes s.params.cmd.setChargeMos start addr p ck) s

/-- A frame with command `CMD_*` of the map's `setDischargeMos` arrives (R80, R86, R155 to R157). -/
def execFrameSetDischargeMos (start addr : Byte) (p : Payload) (ck : Byte) (s : State) : Host.Outcome State Fault Refusal :=
  receiveFrame (wireBytes s.params.cmd.setDischargeMos start addr p ck) s

/-- A frame with command `CMD_*` of the map's `setSoc` arrives (R80, R86, R155 to R157). -/
def execFrameSetSoc (start addr : Byte) (p : Payload) (ck : Byte) (s : State) : Host.Outcome State Fault Refusal :=
  receiveFrame (wireBytes s.params.cmd.setSoc start addr p ck) s

/-- A frame with command `CMD_*` of the map's `restart` arrives (R80, R86, R155 to R157). -/
def execFrameRestart (start addr : Byte) (p : Payload) (ck : Byte) (s : State) : Host.Outcome State Fault Refusal :=
  receiveFrame (wireBytes s.params.cmd.restart start addr p ck) s

end Sys2Proof.Machine
end

