-- ==== Sys2Proof/Machine/Dispatch.lean ====
section
/-! DEFINITION. The dispatch of every instruction to its meaning. -/

namespace Sys2Proof.Machine

def exec (i : Instr) (s : State) : Host.Outcome State Fault Refusal :=
  match i with
  | .openLink => Sys2Proof.Machine.execOpen s
  | .closeLink => Sys2Proof.Machine.execClose s
  | .cfgWrite variant retries => Sys2Proof.Machine.execCfgWrite variant retries s
  | .checksum bytes => Sys2Proof.Machine.execChecksum bytes s
  | .encode cmd extra => Sys2Proof.Machine.execEncode cmd extra s
  | .decode expCmd frame => Sys2Proof.Machine.execDecode expCmd frame s
  | .send cmd n r extra => Sys2Proof.Machine.execSend cmd n r extra s
  | .reassemble w count => Sys2Proof.Machine.execReassemble w count s
  | .planPages kind => Sys2Proof.Machine.execPlanPages kind s
  | .statusQuery => Sys2Proof.Machine.execStatusQuery s
  | .queryCells => Sys2Proof.Machine.execQueryCells s
  | .queryTemps => Sys2Proof.Machine.execQueryTemps s
  | .query cmd => Sys2Proof.Machine.execQuery cmd s
  | .set cmd extra => Sys2Proof.Machine.execSet cmd extra s
  | .decodeBalancing p => Sys2Proof.Machine.execDecodeBalancing p s
  | .decodeFaults p => Sys2Proof.Machine.execDecodeFaults p s
  | .frameStatus start addr p ck => Sys2Proof.Machine.execFrameStatus start addr p ck s
  | .frameSoc start addr p ck => Sys2Proof.Machine.execFrameSoc start addr p ck s
  | .frameCellRange start addr p ck => Sys2Proof.Machine.execFrameCellRange start addr p ck s
  | .frameTempRange start addr p ck => Sys2Proof.Machine.execFrameTempRange start addr p ck s
  | .frameMosfet start addr p ck => Sys2Proof.Machine.execFrameMosfet start addr p ck s
  | .frameCellVoltages start addr p ck => Sys2Proof.Machine.execFrameCellVoltages start addr p ck s
  | .frameTemperatures start addr p ck => Sys2Proof.Machine.execFrameTemperatures start addr p ck s
  | .frameBalancing start addr p ck => Sys2Proof.Machine.execFrameBalancing start addr p ck s
  | .frameFaults start addr p ck => Sys2Proof.Machine.execFrameFaults start addr p ck s
  | .frameSetChargeMos start addr p ck => Sys2Proof.Machine.execFrameSetChargeMos start addr p ck s
  | .frameSetDischargeMos start addr p ck => Sys2Proof.Machine.execFrameSetDischargeMos start addr p ck s
  | .frameSetSoc start addr p ck => Sys2Proof.Machine.execFrameSetSoc start addr p ck s
  | .frameRestart start addr p ck => Sys2Proof.Machine.execFrameRestart start addr p ck s

end Sys2Proof.Machine
end

