-- ==== Sys2Proof/Machine/Fetch.lean ====
section
/-! DEFINITION. Which input the block takes next: reset, the running operation's next transition, or the oldest word held
at the host interface (spec/20_memory.md R71, R74, spec/70_reset_and_hazards.md R292, R295); and where an instruction is
placed so that the next step runs it. -/

namespace Sys2Proof.Machine

/-- The frame the waiting slot is about to read, where the transport's next answer is a whole frame of the command map,
with the state after that answer is taken. -/
def slotFrame? (s : State) : Option (Instr × State) :=
  if slotWaiting s then
    match s.answers with
    | [] => none
    | a :: rest =>
      if a.err then none
      else (decodeWire s.params.cmd (readBytes a)).map (fun i => (i, { s with answers := rest }))
  else none

/-- What the next step does. -/
inductive Fetched where
  /-- reset is asserted (R292) -/
  | reset
  /-- an instruction runs, in the state after it was taken from its port -/
  | run (i : Instr) (t : State)
  /-- a word with an undefined `OPC` was taken (R269) -/
  | illegal (t : State)
  /-- no operation word (R97) -/
  | malformed
  /-- the running operation makes a transition that is no frame's (R150) -/
  | proceed (t : State)
  /-- a transport call has not returned (R301) -/
  | waiting
  /-- idle, with no word at the host interface (R283, R290) -/
  | idle
deriving DecidableEq, Repr

/-- Reset comes before everything (D43); while an operation runs, its next transition, and a word is held (R295); else the
oldest word. -/
def fetch (s : State) : Fetched :=
  if s.resetLine then .reset
  else if s.engBusy then
    match slotFrame? s with
    | some (i, t) => .run i t
    | none =>
      match advance s with
      | some t => .proceed t
      | none => .waiting
  else
    match s.inbox with
    | [] => .idle
    | w :: rest =>
      match decodeOp w with
      | .op i => .run i { s with inbox := rest }
      | .illegal _ => .illegal { s with inbox := rest }
      | .malformed => .malformed

/-- Put an operation word first at the host interface of an idle block. -/
def placeWord (w : List Byte) (s : State) : State :=
  { s with resetLine := false, engBusy := false, fsm := .idle, running := none, inbox := w :: s.inbox }

/-- Put a frame at the link as the answer a waiting slot reads next. -/
def placeFrame (bytes : List Byte) (s : State) : State :=
  { s with
    resetLine := false, engBusy := true, fsm := .collect, running := some .send, slot := 1, slotCarry := false, xN := 1
    answers := { count := 0, bytes := bytes, err := false } :: s.answers }

/-- Place the instruction a word of the opcode table stands for: an operation word at the host interface, a frame row at
the link. -/
def placeTableWord (nbits w : Nat) (s : State) : State :=
  match tableFrame? nbits w with
  | some i => placeFrame (encodeWith s.params.cmd i) s
  | none => placeWord (tableOpBytes nbits w) s

end Sys2Proof.Machine
end

