-- ==== Sys2Proof/Machine/Step.lean ====
section
/-! DEFINITION. One step of the machine, and where the host's instruction word is placed. -/

namespace Sys2Proof.Machine

/-- One step. A block that waits, for the host or for a transport call, stays as it is. -/
def step (s : State) : Host.Outcome State Fault Refusal :=
  match fetch s with
  | .reset => .next (resetBlock s)
  | .run i t => exec i t
  | .illegal t => .next (illegalOperation t)
  | .malformed => .fault .malformedWord
  | .proceed t => .next t
  | .waiting => .next s
  | .idle => .next s

/-- Store the instruction of a table word where `step` takes its next instruction. -/
def State.withFetchWord (s : State) (nbits w : Nat) : State := placeTableWord nbits w s

end Sys2Proof.Machine
end

