-- ==== Sys2Proof/Machine/HostPort.lean ====
section
/-! DEFINITION. What the outside world does to the block between steps: the host delivers a word or reads a register, the
transport answers a call, reset is asserted (spec/20_memory.md R66, R76, spec/70_reset_and_hazards.md R292, R295). -/

namespace Sys2Proof.Machine

/-- The host delivers an operation word (R95, R295). -/
def deliverWord (w : List Byte) (s : State) : State := { s with inbox := s.inbox ++ [w] }

/-- The transport's answer to one more call (R66). -/
def deliverAnswer (a : Answer) (s : State) : State := { s with answers := s.answers ++ [a] }

/-- Reset is asserted (R292). -/
def assertReset (s : State) : State := { s with resetLine := true }

/-- The registers the host reads: the status and result registers (R35 to R38), and the link, configuration and session
flags, which no rule gives to the host or keeps from it and vector E5 of spec/95_test_vectors.md reads (DESIGN CHOICE, log
entry 19). Indices are the spec's: `SERIES` and `BAL` from 1. -/
inductive HostReg where
  | link | addrVariant | retries | sessionValid
  | engBusy | engErr | engErrCmd | engCause | engDetail | engWritten
  | resChecksum | resPages
  | txbuf (k : Fin 13)
  | resPayload (j : Fin 8)
  | replyCount
  | reply (k : Nat) (j : Fin 8)
  | seriesLen
  | series (i : Nat)
  | balLen
  | bal (i : Nat)
  | faultLen
  | faultByte (k : Nat)
  | faultBit (k : Nat)
deriving DecidableEq, Repr

/-- The value of a register that an idle block gives; none where the spec gives it no value (R37, R38, R45). -/
def regValue? (r : HostReg) (s : State) : Option Int :=
  match r with
  | .link => some (if s.link then 1 else 0)
  | .addrVariant => some (variantBit s.addrVariant).toNat
  | .retries => some s.retries.toNat
  | .sessionValid => some (if s.sessionValid then 1 else 0)
  | .engBusy => some (if s.engBusy then 1 else 0)
  | .engErr => some s.engErr.toNat
  | .engErrCmd => some s.engErrCmd.toNat
  | .engCause => some s.engCause.toNat
  | .engDetail => some s.engDetail.toNat
  | .engWritten => some s.engWritten.toNat
  | .resChecksum => some s.resChecksum.toNat
  | .resPages => some s.resPages.toNat
  | .txbuf k => some (s.txbuf.toBytes.getD k.val 0).toNat
  | .resPayload j => some (payloadByte s.resPayload j).toNat
  | .replyCount => some (replyCount s)
  | .reply k j => s.reply[k]?.map (fun p => ((payloadByte p j).toNat : Int))
  | .seriesLen => some (seriesLen s)
  | .series i => if i = 0 then none else s.series[i - 1]?
  | .balLen => some (balLen s)
  | .bal i => if i = 0 then none else s.bal[i - 1]?.map (fun b => if b then 1 else 0)
  | .faultLen => some (faultLen s)
  | .faultByte k => s.fault[k]?.map (fun e => (e.byte.val : Int))
  | .faultBit k => s.fault[k]?.map (fun e => (e.bit.val : Int))

/-- A host read: `ENG.BUSY` always reads as it is (R276); any other register reads as it is only while the block is idle
(R76), and an entry beyond its length has no value (R37, R38). What has no value is a free value. -/
def hostRead (r : HostReg) (s : State) : Int × State :=
  let value := if s.engBusy && decide (r ≠ .engBusy) then none else regValue? r s
  match value with
  | some v => (v, s)
  | none => (Config.unspecifiedRead s.draws, { s with draws := s.draws + 1 })

/-- The name of a fault entry (R36); none where the spec gives it no value (R45). -/
def faultNameValue? (k : Nat) (s : State) : Option FaultName := s.fault[k]?.map FaultEntry.name

/-- A host read of a fault entry's name, the one field that is no number: a free value where a number's read is one (R76). -/
def hostReadName (k : Nat) (s : State) : FaultName × State :=
  match if s.engBusy then none else faultNameValue? k s with
  | some v => (v, s)
  | none => (Config.unspecifiedName s.draws, { s with draws := s.draws + 1 })

end Sys2Proof.Machine
end

