-- ==== Sys2Proof/Safety.lean ====
section
/-! DEFINITION. The words the statements are written in: an idle block, the registers an operation leaves alone, what the
history says of an exchange, the invariants, and the exchange operations as the pseudo-codes of spec/41_dispatcher.md R151
and spec/43_session_queries.md R210 to R220 give them. -/

namespace Sys2Proof.Machine

/-- Apply a function to the next state, if there is one. -/
def mapNext (f : State → State) : Host.Outcome State Fault Refusal → Host.Outcome State Fault Refusal
  | .next s => .next (f s)
  | .fault r => .fault r
  | .refused r => .refused r

/-- The block is idle: no operation runs (R40, R283). -/
def Idle (s : State) : Prop := s.engBusy = false ∧ s.fsm = .idle ∧ s.running = none

/-- The engine status registers say success (R261). -/
def EngClear (s : State) : Prop :=
  s.engErr = 0 ∧ s.engErrCmd = 0 ∧ s.engCause = 0 ∧ s.engDetail = 0 ∧ s.engWritten = 0

/-- The engine status registers say error `e`, with no cause (R262, every error but `ExchangeFailed`). -/
def EngError (e : Err) (s : State) : Prop :=
  s.engErr = errCode e ∧ s.engErrCmd = 0 ∧ s.engCause = 0 ∧ s.engDetail = 0 ∧ s.engWritten = 0

/-- What no operation ever writes: the parameters, the ports but for the answers taken, the reset line, the counter of
unspecified reads. -/
def SamePorts (s t : State) : Prop :=
  t.params = s.params ∧ t.inbox = s.inbox ∧ t.resetLine = s.resetLine ∧ t.draws = s.draws

/-- The session registers are unchanged. -/
def SameSession (s t : State) : Prop := t.sessionValid = s.sessionValid ∧ t.sessionStatus = s.sessionStatus

/-- The link and configuration registers are unchanged. -/
def SameConfig (s t : State) : Prop :=
  t.link = s.link ∧ t.addrVariant = s.addrVariant ∧ t.retries = s.retries

/-- The result registers an exchange does not write are unchanged, `SERIES` and `EXP_IDX` and `RES.PAGES` apart. -/
def SameOtherResults (s t : State) : Prop :=
  t.resChecksum = s.resChecksum ∧ t.resPayload = s.resPayload ∧ t.bal = s.bal ∧ t.fault = s.fault

/-- `SERIES`, `EXP_IDX` and `RES.PAGES` are unchanged. -/
def SamePages (s t : State) : Prop :=
  t.series = s.series ∧ t.expIdx = s.expIdx ∧ t.resPages = s.resPages

/-- Everything SEND, QUERY and SET do not write: all but TXBUF, REPLY, RXSLOT, RXLEN, the exchange's counters and latches,
ENG and the history (R151, R219, R220). -/
def ExchangeFrame (s t : State) : Prop :=
  SamePorts s t ∧ SameSession s t ∧ SameConfig s t ∧ SameOtherResults s t ∧ SamePages s t

/-- The answers of a collection whose every slot gives a valid frame for `cmd`, with the payloads it gives. -/
def ValidReads (cmd : Byte) (reads : List Answer) (payloads : List Payload) : Prop :=
  List.Forall₂ (fun a p => a.err = false ∧ codecDecode (readBytes a) cmd = .ok p) reads payloads

/-- The event of a slot's read. -/
def readEvent (a : Answer) : Event := .read Config.frameLen (readBytes a) a.err

/-- The answer to a write that begins collection: no error and the whole frame (R154). -/
def AcceptedWrite (w : Answer) : Prop := w.err = false ∧ w.count = 13

/-- The events of an attempt's drain: one that reports an error is logged, and that is all (R153). -/
def drainEvents (cmd : Byte) (d : Answer) : List Event :=
  .drain d.err :: if d.err then [.log (.drainFailed cmd)] else []

/-- The events of an attempt with request frame `f` whose write is accepted: the drain's, the write and the slots' reads. -/
def attemptEvents (f : Frame) (d : Answer) (reads : List Answer) : List Event :=
  drainEvents f.cmd d ++ .write f 13 false :: reads.map readEvent

/-- A successful exchange ended idle: ENG clear, the request frame in TXBUF, the payloads in REPLY in reception order. -/
def ExchangeDone (cmd : Byte) (extra : List Byte) (payloads : List Payload) (s t : State) : Prop :=
  Idle t ∧ EngClear t ∧ t.txbuf = requestFrame s.params s.addrVariant cmd extra ∧ t.reply = payloads

/-- An exchange that failed after its last attempt ended idle: `ExchangeFailed` for `cmd` with the given cause registers,
the request frame in TXBUF and no reply (R159, R262, R263). -/
def ExchangeFailedWith (cmd : Byte) (extra : List Byte) (cause detail written : Byte) (s t : State) : Prop :=
  Idle t ∧ t.engErr = 0x05 ∧ t.engErrCmd = cmd ∧ t.engCause = cause ∧ t.engDetail = detail ∧ t.engWritten = written ∧
  t.txbuf = requestFrame s.params s.addrVariant cmd extra ∧ t.reply = []

/-- The events of `k` attempts with the same events, and the backoff between one and the next (R158). -/
def attemptsEvents (events : List Event) : Nat → List Event
  | 0 => []
  | 1 => events
  | k + 2 => events ++ .delay 200 :: attemptsEvents events (k + 1)

/-- The page-index log of R181 for the pages a reassembly looks at: page `k` (from 0) is compared with `k + 1`. -/
def pageLogs (pages : List Payload) : List Event :=
  (pages.zipIdx 1).flatMap (fun x =>
    if x.1.b0.toNat = x.2 then [] else [.log (.pageIndexMismatch (BitVec.ofNat 9 x.2) x.1.b0)])

/-- The pages a reassembly of width `w` looks at: as many as it needs for `count` items (R181, R184). -/
def pagesLookedAt (w count : Nat) (pages : List Payload) : List Payload := pages.take (ceilDiv count (itemsPerPage w))

/-- The series of a reassembly: the items of the pages in reception order, cut at `count` (R181, R187). -/
def seriesOf (w count : Nat) (pages : List Payload) : List Int :=
  (pages.flatMap (fun p => pageItems p w)).take count

/-- The exchange an instruction runs, where it runs one (R210, R214 to R220): a paginated query needs its session. -/
def RunsExchange (s : State) (i : Instr) (cmd : Byte) (extra : List Byte) (n r : Byte) : Prop :=
  i = .send cmd n r extra ∨
  (i = .statusQuery ∧ cmd = s.params.cmd.status ∧ extra = [] ∧ n = 1 ∧ r = s.retries) ∨
  (i = .queryCells ∧ s.sessionValid = true ∧ cmd = s.params.cmd.cellVoltages ∧ extra = [] ∧
    n = BitVec.ofNat 8 (pagePlan .cells s) ∧ r = s.retries) ∨
  (i = .queryTemps ∧ s.sessionValid = true ∧ cmd = s.params.cmd.temperatures ∧ extra = [] ∧
    n = BitVec.ofNat 8 (pagePlan .temperatures s) ∧ r = s.retries) ∨
  (i = .query cmd ∧ extra = [] ∧ n = 1 ∧ r = s.retries) ∨
  (i = .set cmd extra ∧ n = 1 ∧ r = s.retries)

/-- The payloads of an exchange's last attempt, read off its events: a write starts a collection anew, and each valid frame
for `cmd` adds one (R153, R157, R170). -/
def collected (cmd : Byte) (events : List Event) : List Payload :=
  events.foldl (init := []) fun payloads event =>
    match event with
    | .write _ _ _ => []
    | .read _ bytes false =>
      match codecDecode bytes cmd with
      | .ok p => payloads ++ [p]
      | .error _ => payloads
    | _ => payloads

/-- Cause, detail and written count of an exchange's last attempt where it collected no frame, read off its events: the
write's (R154), or `NoValidFrames` with the detail of the last read (R156 to R158, R165). -/
def failureRecord (cmd : Byte) (events : List Event) : Byte × Byte × Byte :=
  events.foldl (init := (0, 0, 0)) fun record event =>
    match event with
    | .write _ _ true => (0x01, 0, 0)
    | .write _ n false => if n = 13 then (0x09, 0, 0) else (0x08, 0, BitVec.ofNat 8 (min n 255))
    | .read _ _ true => (0x09, 0x01, 0)
    | .read _ bytes false =>
      if bytes.length = 0 then (0x09, 0x02, 0)
      else if bytes.length < 13 then (0x09, 0x03, 0)
      else if bytes.getD 12 0 ≠ checksum (bytes.take 12) then (0x09, 0x04, 0)
      else if bytes.getD 2 0 ≠ cmd then (0x09, 0x05, 0)
      else record
    | _ => record

def isDrain : Event → Bool
  | .drain _ => true
  | _ => false

def isWrite : Event → Bool
  | .write _ _ _ => true
  | _ => false

def isRead : Event → Bool
  | .read _ _ _ => true
  | _ => false

def isDelay : Event → Bool
  | .delay ms => ms == 200
  | _ => false

/-- The states in which an exchange that passed CHECK runs or has just succeeded. -/
def exchanging : Fsm → Bool
  | .idle => false
  | .check => false
  | .drain => true
  | .write => true
  | .collect => true
  | .backoff => true
  | .finish none => true
  | .finish (some _) => false

/-- `ENG.BUSY = 1` exactly when `FSM != IDLE` or another operation is running (R40). -/
def InvBusy (s : State) : Prop := s.engBusy = true ↔ (s.fsm ≠ .idle ∨ s.running ≠ none)

/-- The link and the session (R223, R30), with what an exchange that passed CHECK adds. -/
def InvSession (s : State) : Prop :=
  (s.link = false → s.sessionValid = false) ∧
  (s.sessionValid = false → s.sessionStatus = Payload.zero) ∧
  (exchanging s.fsm = true → s.link = true)

/-- The codes an operation may leave in `ENG.ERR` (R260). -/
def errCodes : List Byte := [0x00, 0x01, 0x02, 0x03, 0x04, 0x05, 0x06, 0x07, 0x0A, 0x0B, 0x0C, 0x0D]

/-- The cause codes (R266). -/
def causeCodes : List Byte := [0x01, 0x08, 0x09]

/-- The engine status registers (R35, R260, R266, R267): only the codes listed, the cause registers nonzero only for
`ExchangeFailed`; with what the running exchange's failure record adds. -/
def InvEngine (s : State) : Prop :=
  s.engErr ∈ errCodes ∧
  (s.engErr ≠ 0x05 → s.engErrCmd = 0 ∧ s.engCause = 0 ∧ s.engDetail = 0 ∧ s.engWritten = 0) ∧
  (s.engErr = 0x05 → s.engCause ∈ causeCodes) ∧
  (s.engCause ≠ 0x09 → s.engDetail = 0) ∧
  (s.engCause ≠ 0x08 → s.engWritten = 0) ∧
  s.engDetail ≤ 0x05 ∧
  s.lastDetail ≤ 0x05 ∧
  (∀ e, s.fsm = .finish (some e) → e = .notOpen ∨ e = .encodingError ∨ e = .exchangeFailed) ∧
  (s.fsm = .finish (some .exchangeFailed) → s.lastCause ∈ causeCodes)

/-- The exchange's bounds: the retry count is at least 1 (R24), an attempt's number is in range (R152), an attempt collects
at most one frame a slot and `X.N` in all (R167), a success has a frame (R39), and `X.EXTRA` has at most 8 bytes (R41). -/
def InvExchange (s : State) : Prop :=
  s.retries ≠ 0 ∧
  s.reply.length ≤ Config.maxFrames ∧
  (s.fsm = .check → s.rEff ≠ 0) ∧
  (s.fsm = .drain ∨ s.fsm = .write ∨ s.fsm = .collect ∨ s.fsm = .backoff → 1 ≤ s.attempt ∧ s.attempt ≤ s.rEff) ∧
  (s.fsm = .backoff → s.attempt < s.rEff) ∧
  (s.fsm = .write → s.reply = []) ∧
  (s.fsm = .collect → s.reply.length + 1 ≤ slotNumber s ∧ slotNumber s ≤ s.xN.toNat + 1) ∧
  (s.fsm = .finish none → s.reply ≠ [] ∧ s.reply.length ≤ s.xN.toNat) ∧
  (s.fsm = .finish (some .exchangeFailed) → s.reply = []) ∧
  s.xExtra.length ≤ 8

/-- The widths of the other buffers (R36, R38, R42, R43). -/
def InvBuffers (s : State) : Prop :=
  s.series.length ≤ 255 ∧ (∀ v ∈ s.series, -32768 ≤ v ∧ v ≤ 32767) ∧
  s.bal.length ≤ 64 ∧ s.fault.length ≤ 64 ∧
  1 ≤ s.expIdx.toNat ∧ s.expIdx.toNat ≤ 256 ∧ s.rxlen.toNat ≤ 13

/-- Up to the two counters that the pseudo-code's `for` variables stand for. -/
def hideCounters (s : State) : State := { s with attempt := 0, slot := 0, slotCarry := false }

/-- The slots of one attempt, as R151's `for SLOT in 1 .. X.N` gives them; none where the answers run out. -/
def refSlots : Nat → State → Option State
  | 0, s => some s
  | k + 1, s =>
    match s.answers with
    | [] => none
    | a :: rest =>
      let bytes := readBytes a
      let s1 := storeSlot bytes (emit (.read Config.frameLen bytes a.err) { s with answers := rest })
      if a.err then some { s1 with lastDetail := detailCode .readError }
      else if bytes.length = 0 then some { s1 with lastDetail := detailCode .noData }
      else if bytes.length < 13 then
        some { emitLog (.shortRead bytes.length) s1 with lastDetail := detailCode .shortRead }
      else
        match codecDecode bytes s.xCmd with
        | .ok p => refSlots k { s1 with reply := s1.reply ++ [p] }
        | .error e => refSlots k { s1 with lastDetail := detailCode (slotDetail e) }

/-- `fail(...)` of R151's `Attempt()`: the failure record. -/
def refFail (cause : Err) (detail written : Byte) (s : State) : State :=
  { s with lastCause := errCode cause, lastDetail := detail, lastWritten := written }

/-- R151's `Attempt()`: the state after it and whether it succeeded; none where the answers run out. -/
def refAttempt (s : State) : Option (State × Bool) :=
  match s.answers with
  | [] => none
  | d :: rest =>
    let s1 := emit (.drain d.err) { dropReply s with answers := rest }
    let s2 := if d.err then emitLog (.drainFailed s.xCmd) s1 else s1
    match s2.answers with
    | [] => none
    | w :: rest' =>
      let s3 := emit (.write s2.txbuf w.count w.err) { s2 with answers := rest' }
      if w.err then some (refFail .transportError 0 0 s3, false)
      else if w.count ≠ 13 then some (refFail .writeError 0 (BitVec.ofNat 8 (min w.count 255)) s3, false)
      else
        match refSlots s.xN.toNat { s3 with lastDetail := detailCode .none } with
        | none => none
        | some t => if t.reply = [] then some (refFail .noValidFrames t.lastDetail 0 t, false) else some (t, true)

/-- The rest of R151's attempt loop, with `k + 1` attempts left; a delay comes before every attempt but the first. -/
def refLoop : Nat → State → Option (State × Bool)
  | 0, s => refAttempt s
  | k + 1, s =>
    match refAttempt s with
    | none => none
    | some (t, true) => some (t, true)
    | some (t, false) => refLoop k (emit (.delay Config.backoffMs) t)

/-- `Exchange(cmd, E, N, R)` of R210 as R151's pseudo-code gives it, with what its caller clears on an error (R263) and what
it goes on to do on success. `X.EXTRA` latches as log entry 6 says. -/
def refExchange (cmd : Byte) (extra : List Byte) (n r : Byte) (cleared after : State → State) (s : State) :
    Option State :=
  let s1 := { s with xCmd := cmd, xExtra := extra.take 8, xRest := extra.drop 8, xN := n, rEff := clampRetries r }
  if s.link = false then some (raise .notOpen (cleared s1))
  else
    match codecEncode s.params s.addrVariant cmd extra with
    | .error e => some (raise e (cleared s1))
    | .ok f =>
      match refLoop ((clampRetries r).toNat - 1) { s1 with txbuf := f } with
      | none => none
      | some (t, true) => some (complete (after t))
      | some (t, false) => some (raise .exchangeFailed (cleared t))

/-- SEND as R151's pseudo-code gives it. -/
def refSend (cmd n r : Byte) (extra : List Byte) (s : State) : Option State :=
  refExchange cmd extra n r dropReply id s

/-- STATUS_QUERY as R214's pseudo-code gives it: `SESSION.STATUS <- REPLY[0]; SESSION.VALID <- 1`. -/
def refStatusQuery (s : State) : Option State :=
  refExchange s.params.cmd.status [] 1 s.retries dropReply
    (fun t => { t with sessionStatus := t.reply.headD t.sessionStatus, sessionValid := true }) s

/-- QUERY_CELLS and QUERY_TEMPS as the pseudo-codes of R216 and R217 give them, for a command, a page count, an item width
and a session count. -/
def refPaginated (cmd pages : Byte) (w count : Nat) (s : State) : Option State :=
  let cleared := fun t : State => { t with reply := [], series := [] }
  if s.sessionValid = false then some (raise .prerequisiteMissing (cleared s))
  else
    refExchange cmd [] pages s.retries cleared
      (fun t =>
        { t with
          series := seriesOf w count t.reply
          expIdx := BitVec.ofNat 9 (1 + (pagesLookedAt w count t.reply).length)
          history := t.history ++ pageLogs (pagesLookedAt w count t.reply) })
      { s with resPages := pages }

/-- QUERY as R219's pseudo-code gives it. -/
def refQuery (cmd : Byte) (s : State) : Option State := refExchange cmd [] 1 s.retries dropReply id s

/-- SET as R220's pseudo-code gives it. -/
def refSet (cmd : Byte) (extra : List Byte) (s : State) : Option State := refExchange cmd extra 1 s.retries dropReply id s

/-- `exec` of an instruction ends in the state its pseudo-code ends in, up to the two loop counters, and is still running
where the pseudo-code waits for an answer. -/
def FollowsPseudocode (i : Instr) (s : State) (pseudocode : Option State) : Prop :=
  match pseudocode with
  | some t => ∃ u, exec i s = .next u ∧ hideCounters u = hideCounters t
  | none => ∃ u, exec i s = .next u ∧ u.engBusy = true

end Sys2Proof.Machine
end

