-- ==== Sys2Proof/Certificates/Slice0/Obligations.lean ====
section
/-! DEFINITION. The statements for the provers. -/

open Sys2Proof Sys2Proof.Machine

/-! ### Encoding -/

/-- Every well-formed host operation is read back from its operation word, whatever the command map (R95 to R97). -/
def Obligations.HostWordsReadBack : Prop :=
  ∀ (m : CmdMap) (i : Instr), i.isHostOp = true → i.wellFormed = true → decodeOp (encodeWith m i) = .op i

/-- Every frame row is read back from its 13 bytes under every command map whose command bytes differ (R80, R86). -/
def Obligations.FramesReadBack : Prop :=
  ∀ (m : CmdMap), m.Distinct → ∀ i : Instr, i.isHostOp = false → decodeWire m (encodeWith m i) = some i

/-- A byte sequence read as an operation is that operation's word and no other (R96, R97). -/
def Obligations.AReadWordIsItsOperationsWord : Prop :=
  ∀ (m : CmdMap) (word : List Byte) (i : Instr), decodeOp word = .op i →
    encodeWith m i = word ∧ i.wellFormed = true ∧ i.isHostOp = true

/-- A few words written out from the tables of R95, R96 and R80 decode to the instructions they stand for. The frame's
command byte is read by R86's default map, whose values are general knowledge and no source's (log entry 1). -/
def Obligations.SampleWordsDecode : Prop :=
  decodeOp [0x03, 0x01, 0x00] = .op (.cfgWrite 1 0) ∧
  decodeOp [0x10, 0x02, 0xFF, 0x01] = .op (.checksum [0xFF, 0x01]) ∧
  decodeOp [0x20, 0x90, 0x01, 0x03, 0x00] = .op (.send 0x90 1 3 []) ∧
  decodeOp [0x30, 0x02, 0x05] = .op (.reassemble 2 5) ∧
  decodeOp [0x43, 0x97] = .op (.query 0x97) ∧
  decodeOp [0x50, 0, 0, 0, 0, 0, 0, 0, 5] = .op (.decodeBalancing ⟨0, 0, 0, 0, 0, 0, 0, 5⟩) ∧
  decodeOp [0x13] = .illegal 0x13 ∧
  decodeWire CmdMap.default [0xA5, 0x40, 0x90, 0x08, 0, 0, 0, 0, 0, 0, 0, 0, 0x7D] =
    some (.frameSoc 0xA5 0x40 Payload.zero 0x7D)

/-- R269: a word with an undefined operation code, whatever follows it, writes nothing but `ENG.*` and appends no
event. -/
def Obligations.UndefinedCodeIsIllegalOperation : Prop :=
  ∀ (s : State) (opc : Byte) (operands : List Byte) (words : List (List Byte)),
    Idle s → s.resetLine = false → s.inbox = (opc :: operands) :: words →
    opc ∉ ([0x01, 0x02, 0x03, 0x10, 0x11, 0x12, 0x20, 0x30, 0x31, 0x40, 0x41, 0x42, 0x43, 0x44, 0x50, 0x51] : List Byte) →
    step s = .next { s with
      inbox := words, engErr := 0x0D, engErrCmd := 0, engCause := 0, engDetail := 0, engWritten := 0 }

/-! ### The step -/

/-- A step of a block that runs nothing takes the oldest word at the host interface and is exec of the operation it decodes
to (the port as a queue in State is log entry 8). -/
def Obligations.StepRunsTheDecodedWord : Prop :=
  ∀ (s : State) (word : List Byte) (words : List (List Byte)) (i : Instr),
    s.resetLine = false → s.engBusy = false → s.inbox = word :: words → decodeOp word = .op i →
    step s = exec i { s with inbox := words }

/-- A step in which a waiting slot's answer is a whole frame of the command map is exec of that frame row, with the answer
taken; and that is the running operation's transition of R150: a frame of the command map is treated as any 13 bytes are. That
a frame row runs so is the model's choice (log entry 10). -/
def Obligations.StepRunsTheSlotsFrame : Prop :=
  ∀ (s : State) (a : Answer) (answers : List Answer) (i : Instr),
    s.resetLine = false → slotWaiting s = true → s.answers = a :: answers → a.err = false →
    decodeWire s.params.cmd (readBytes a) = some i →
    step s = exec i { s with answers := answers } ∧
    ∃ t, exec i { s with answers := answers } = .next t ∧ advance s = some t

/-- While an operation runs, a step is its next transition (R150), one at a time, where no frame row runs (log
entry 14). -/
def Obligations.StepIsTheNextTransition : Prop :=
  ∀ (s t : State), s.resetLine = false → s.engBusy = true → slotFrame? s = none → advance s = some t → step s = .next t

/-- R301: a transport call that has not returned leaves the block as it is, with `ENG.BUSY = 1`, whichever call it is;
that a stuck run is a step to the same state is the model's choice (log entry 13), and SLOT's carry is the
model's own field (log entry 5). -/
def Obligations.AnUnansweredCallLeavesTheBlockBusy : Prop :=
  ∀ s : State, s.resetLine = false → s.engBusy = true → s.answers = [] →
    (s.fsm = .drain ∨ s.fsm = .write ∨ (s.fsm = .collect ∧ slotsTaken s = false) ∨
      (s.fsm = .idle ∧ (s.running = some .openClosing ∨ s.running = some .openOpening ∨ s.running = some .closing))) →
    step s = .next s

/-- A host operation issued while another runs is held at the host interface (R295). That exec of an operation on a busy block
is its delivery, appended last to a queue in State, and nothing else, is the model's choice (log entries 8 and 14). -/
def Obligations.AnOperationIssuedWhileBusyIsHeld : Prop :=
  ∀ (s : State) (i : Instr), s.engBusy = true → i.isHostOp = true →
    exec i s = .next { s with inbox := s.inbox ++ [encodeWith s.params.cmd i] }

/-- An operation's run leaves no transition undone that the answers at hand allow (R71, log entry 14). -/
def Obligations.AnOperationRunsToItsEndOrToAnUnansweredCall : Prop :=
  ∀ (s t : State) (i : Instr), Idle s → i.isHostOp = true → exec i s = .next t → advance t = none

/-! ### Reset and the history -/

/-- R290, R292: reset, at any moment, puts every register at its reset value and keeps the events already appended; the
parameters and what waits at the ports are no registers of the block (log entry 8; entry 7 for RXSLOT, RXLEN
and EXP_IDX). -/
def Obligations.ResetAbandonsTheOperation : Prop :=
  ∀ s : State, s.resetLine = true →
    step s = .next { State.reset with
      params := s.params, inbox := s.inbox, answers := s.answers, history := s.history, draws := s.draws }

/-- The reset values of R45 that the spec gives; the model's own parts of SLOT and X.EXTRA are clear with them (log entries 5
and 6). -/
def Obligations.ResetValues : Prop :=
  State.reset.link = false ∧ State.reset.addrVariant = .wired ∧ State.reset.retries = 3 ∧
  State.reset.sessionValid = false ∧ State.reset.sessionStatus = ⟨0, 0, 0, 0, 0, 0, 0, 0⟩ ∧
  State.reset.engBusy = false ∧ State.reset.engErr = 0 ∧ State.reset.engErrCmd = 0 ∧ State.reset.engCause = 0 ∧
  State.reset.engDetail = 0 ∧ State.reset.engWritten = 0 ∧ State.reset.resChecksum = 0 ∧ State.reset.resPages = 0 ∧
  State.reset.txbuf.toBytes = List.replicate 13 0 ∧ State.reset.resPayload.toList = List.replicate 8 0 ∧
  replyCount State.reset = 0 ∧ seriesLen State.reset = 0 ∧ balLen State.reset = 0 ∧ faultLen State.reset = 0 ∧
  State.reset.fsm = .idle ∧ State.reset.slotCarry = false ∧ State.reset.xRest = [] ∧ State.reset.attempt = 0 ∧ State.reset.rEff = 0 ∧ State.reset.slot = 0 ∧
  State.reset.lastCause = 0 ∧ State.reset.lastDetail = 0 ∧ State.reset.lastWritten = 0 ∧
  State.reset.xCmd = 0 ∧ State.reset.xExtra = [] ∧ State.reset.xN = 0

/-- No step takes an event out of the history or changes one (R70, R262, R292). -/
def Obligations.TheHistoryOnlyGrows : Prop :=
  ∀ s t : State, step s = .next t → s.history <+: t.history

/-- R8: no instruction looks at the history: events put before it change nothing but that they stand before it. -/
def Obligations.TheHistoryIsNeverRead : Prop :=
  ∀ (i : Instr) (s : State) (past : List Event),
    exec i { s with history := past ++ s.history } =
      mapNext (fun t => { t with history := past ++ t.history }) (exec i s)

/-! ### The frame codec -/

/-- CHECKSUM: the low 8 bits of the sum of the bytes, and nothing else but `ENG.*` (R110, R120). -/
def Obligations.ChecksumWritesTheSum : Prop :=
  ∀ (s : State) (bytes : List Byte), Idle s →
    exec (.checksum bytes) s = .next { s with
      resChecksum := BitVec.ofNat 8 ((bytes.map BitVec.toNat).sum)
      engErr := 0, engErrCmd := 0, engCause := 0, engDetail := 0, engWritten := 0 }

/-- ENCODE of at most 8 extra bytes: TXBUF is START, ADDR, the command, 0x08, the extra bytes, zeros up to 8, and the
checksum of these 12 bytes; nothing else changes but `ENG.*` (R112, R121). -/
def Obligations.EncodeBuildsTheRequestFrame : Prop :=
  ∀ (s : State) (cmd : Byte) (extra : List Byte), Idle s → extra.length ≤ 8 →
    ∃ f : Frame,
      exec (.encode cmd extra) s = .next { s with
        txbuf := f, engErr := 0, engErrCmd := 0, engCause := 0, engDetail := 0, engWritten := 0 } ∧
      (let addr := match s.addrVariant with
          | .wired => s.params.addrWired
          | .wireless => s.params.addrWireless
       let body := [s.params.startByte, addr, cmd, 0x08] ++ extra ++ List.replicate (8 - extra.length) 0
       f.toBytes = body ++ [BitVec.ofNat 8 ((body.map BitVec.toNat).sum)])

/-- R111, R121: ENCODE of more than 8 extra bytes ends with EncodingError and leaves TXBUF as it was. -/
def Obligations.EncodeNeverTruncates : Prop :=
  ∀ (s : State) (cmd : Byte) (extra : List Byte), Idle s → 8 < extra.length →
    exec (.encode cmd extra) s = .next { s with
      engErr := 0x07, engErrCmd := 0, engCause := 0, engDetail := 0, engWritten := 0 }

/-- DECODE of 13 bytes whose last is the checksum of the first 12 and whose third is the expected command: RES.PAYLOAD is
bytes 4 to 11, whatever bytes 0, 1 and 3 are (R117, R122). -/
def Obligations.DecodeExtractsThePayload : Prop :=
  ∀ (s : State) (exp start addr cmd len ck : Byte) (p : Payload), Idle s →
    ck = BitVec.ofNat 8 ((([start, addr, cmd, len] ++ p.toList).map BitVec.toNat).sum) → cmd = exp →
    exec (.decode exp ([start, addr, cmd, len] ++ p.toList ++ [ck])) s = .next { s with
      resPayload := p, engErr := 0, engErrCmd := 0, engCause := 0, engDetail := 0, engWritten := 0 }

/-- R113, R114, R116, R118, R122: DECODE reports the first test that fails (length, checksum, command) and leaves
RES.PAYLOAD as it was. -/
def Obligations.DecodeReportsTheFirstFailingTest : Prop :=
  ∀ (s : State) (exp : Byte) (bytes : List Byte), Idle s →
    ∀ e : Byte,
      ((bytes.length ≠ 13 ∧ e = 0x02) ∨
       (bytes.length = 13 ∧ bytes.getD 12 0 ≠ checksum (bytes.take 12) ∧ e = 0x03) ∨
       (bytes.length = 13 ∧ bytes.getD 12 0 = checksum (bytes.take 12) ∧ bytes.getD 2 0 ≠ exp ∧ e = 0x04)) →
      exec (.decode exp bytes) s = .next { s with
        engErr := e, engErrCmd := 0, engCause := 0, engDetail := 0, engWritten := 0 }

/-- R125: decoding an encoded request gives the extra bytes, padded with zeros to 8, under both address variants. -/
def Obligations.EncodeThenDecodeGivesThePaddedExtra : Prop :=
  ∀ (p : Params) (v : Variant) (cmd : Byte) (extra : List Byte), extra.length ≤ 8 →
    ∃ f payload, codecEncode p v cmd extra = .ok f ∧ codecDecode f.toBytes cmd = .ok payload ∧
      payload.toList = extra ++ List.replicate (8 - extra.length) 0

/-- R123: changing any one byte of a valid frame makes Decode fail with ChecksumMismatch, whatever command it expects. -/
def Obligations.OneChangedByteIsAlwaysDetected : Prop :=
  ∀ (frame : List Byte) (cmd : Byte) (payload : Payload), codecDecode frame cmd = .ok payload →
    ∀ (k : Nat) (b exp : Byte), k < 13 → frame[k]? ≠ some b →
      codecDecode (frame.set k b) exp = .error .checksumMismatch

/-- R124: flipping bit 7 of two of the bytes 4 to 11 of an accepted frame is not detected: Decode accepts the frame with
the corrupted payload. -/
def Obligations.TwoBitSevenFlipsInThePayloadPass : Prop :=
  ∀ (frame : List Byte) (cmd : Byte) (payload : Payload), codecDecode frame cmd = .ok payload →
    ∀ (j k : Nat) (x y : Byte), 4 ≤ j → j < k → k ≤ 11 → frame[j]? = some x → frame[k]? = some y →
      codecDecode ((frame.set j (x ^^^ 0x80)).set k (y ^^^ 0x80)) cmd =
        .ok (Payload.ofList ((payload.toList.set (j - 4) (x ^^^ 0x80)).set (k - 4) (y ^^^ 0x80)))

/-! ### The page reassembler and planner -/

/-- REASSEMBLE of width 1 or 2: SERIES is the items of the pages in reception order, cut at COUNT, item by item the
big-endian two's-complement value of its bytes of the page (R84, R182): with W = 1 byte 1 + k mod 7 of page k / 7, with
W = 2 bytes 1 + 2 (k mod 3) and the next of page k / 3. Each page looked at whose index differs is logged; nothing else
changes but `ENG.*` (R180, R181, R184 to R187). EXP_IDX is one more than the pages looked at, a page stopped in the middle
among them: R43 and D20 of spec/92_eei_decisions.md say so, against the line order of R181's pseudo-code (log entry 20). The
premise on the reply buffer is what StepKeepsTheExchangeBounds keeps. -/
def Obligations.ReassembleCutsTheItemsAtTheCount : Prop :=
  ∀ (s : State) (w count : Byte), Idle s → (w = 1 ∨ w = 2) → s.reply.length ≤ 255 →
    exec (.reassemble w count) s = .next { s with
      series := seriesOf w.toNat count.toNat s.reply
      expIdx := BitVec.ofNat 9 (1 + (pagesLookedAt w.toNat count.toNat s.reply).length)
      history := s.history ++ pageLogs (pagesLookedAt w.toNat count.toNat s.reply)
      engErr := 0, engErrCmd := 0, engCause := 0, engDetail := 0, engWritten := 0 } ∧
    (let series := seriesOf w.toNat count.toNat s.reply
     let perPage := if w = 1 then 7 else 3
     series.length = min count.toNat (s.reply.length * perPage) ∧
     ∀ (k : Nat) (p : Payload), k < series.length → s.reply[k / perPage]? = some p →
       series[k]? = some (
         if w = 1 then (p.toList.getD (1 + k % 7) 0).toInt
         else (p.toList.getD (1 + 2 * (k % 3)) 0 ++ p.toList.getD (2 + 2 * (k % 3)) 0).toInt))

/-- PLAN_PAGES with a session: on the wireless bridge 16 and 3; on the wired link the least page count that holds the
session's cells (3 a page) or sensors (7 a page), which are the bytes of SESSION.STATUS at the two offsets (R31); it is at
most 85 (R190, R191, R193). -/
def Obligations.PlanPagesPlansTheLeastPageCount : Prop :=
  ∀ (s : State) (kind : Byte), Idle s → s.sessionValid = true → kind ≤ 1 →
    ∃ pages : Byte,
      exec (.planPages kind) s = .next { s with
        resPages := pages, engErr := 0, engErrCmd := 0, engCause := 0, engDetail := 0, engWritten := 0 } ∧
      (s.addrVariant = .wireless → pages = if kind = 0 then 16 else 3) ∧
      (s.addrVariant = .wired →
        let total := if kind = 0 then (sessionCells s).toNat else (sessionSensors s).toNat
        let perPage := if kind = 0 then 3 else 7
        total ≤ pages.toNat * perPage ∧ (∀ q : Nat, total ≤ q * perPage → pages.toNat ≤ q)) ∧
      s.sessionStatus.toList[s.params.cellsOffset.val]? = some (sessionCells s) ∧
      s.sessionStatus.toList[s.params.sensorsOffset.val]? = some (sessionSensors s) ∧
      pages.toNat ≤ 85

/-! ### Connection and configuration -/

/-- OPEN (R211): an open link is closed first, whatever the answer; the session is cleared; the transport's open call is
made with PORT_ID and the line's settings, and its error is TransportError and leaves the link closed. -/
def Obligations.OpenStartsAFreshSession : Prop :=
  ∀ (s : State) (a : Answer) (answers : List Answer), Idle s →
    (s.link = false → s.answers = a :: answers →
      exec .openLink s = .next { s with
        link := !a.err, sessionValid := false, sessionStatus := Payload.zero, answers := answers
        history := s.history ++ [.openLink s.params.portId ⟨9600, 8, .none, 1, s.params.readTimeoutMs⟩ a.err]
        engErr := if a.err then 0x01 else 0
        engErrCmd := 0, engCause := 0, engDetail := 0, engWritten := 0 }) ∧
    (∀ c : Answer, s.link = true → s.answers = c :: a :: answers →
      exec .openLink s = .next { s with
        link := !a.err, sessionValid := false, sessionStatus := Payload.zero, answers := answers
        history := s.history ++
          [.closeLink c.err, .openLink s.params.portId ⟨9600, 8, .none, 1, s.params.readTimeoutMs⟩ a.err]
        engErr := if a.err then 0x01 else 0
        engErrCmd := 0, engCause := 0, engDetail := 0, engWritten := 0 })

/-- CLOSE (R212): an open link is closed and the session cleared, and an error of the transport's close call is
TransportError; a closed link makes no transport call. -/
def Obligations.CloseTearsTheLinkDown : Prop :=
  ∀ s : State, Idle s →
    (∀ (a : Answer) (answers : List Answer), s.link = true → s.answers = a :: answers →
      exec .closeLink s = .next { s with
        link := false, sessionValid := false, sessionStatus := Payload.zero, answers := answers
        history := s.history ++ [.closeLink a.err]
        engErr := if a.err then 0x01 else 0
        engErrCmd := 0, engCause := 0, engDetail := 0, engWritten := 0 }) ∧
    (s.link = false →
      exec .closeLink s = .next { s with
        sessionValid := false, sessionStatus := Payload.zero
        engErr := 0, engErrCmd := 0, engCause := 0, engDetail := 0, engWritten := 0 })

/-- CFG_WRITE (R213, R24): VARIANT 0 is wired and 1 is the wireless bridge, RETRIES of 0 stores 1; VARIANT above 1 writes
neither field. -/
def Obligations.CfgWriteWritesBothFieldsOrNeither : Prop :=
  ∀ (s : State) (variant retries : Byte), Idle s →
    (variant ≤ 1 →
      exec (.cfgWrite variant retries) s = .next { s with
        addrVariant := if variant = 0 then .wired else .wireless
        retries := if retries = 0 then 1 else retries
        engErr := 0, engErrCmd := 0, engCause := 0, engDetail := 0, engWritten := 0 }) ∧
    (1 < variant →
      exec (.cfgWrite variant retries) s = .next { s with
        engErr := 0x0A, engErrCmd := 0, engCause := 0, engDetail := 0, engWritten := 0 })

/-- R293: of the instructions only CFG_WRITE changes the configuration, and a step without reset changes it only by running a
CFG_WRITE word. That the parameters of R3 are a field of State, which no instruction changes, is the model's choice (log
entry 4). -/
def Obligations.OnlyCfgWriteChangesTheConfiguration : Prop :=
  (∀ (i : Instr) (s t : State), exec i s = .next t →
    t.params = s.params ∧
    ((∀ variant retries, i ≠ .cfgWrite variant retries) → t.addrVariant = s.addrVariant ∧ t.retries = s.retries)) ∧
  (∀ s t : State, s.resetLine = false → step s = .next t → (t.addrVariant ≠ s.addrVariant ∨ t.retries ≠ s.retries) →
    s.engBusy = false ∧ ∃ word words variant retries,
      s.inbox = word :: words ∧ decodeOp word = .op (.cfgWrite variant retries))

/-- R270: CFG_WRITE with VARIANT above 1, REASSEMBLE with W other than 1 and 2, and PLAN_PAGES with KIND above 1 end with
InvalidArgument and have no other effect, but that a failing REASSEMBLE empties the series (R263). -/
def Obligations.InvalidOperandsAreRefused : Prop :=
  ∀ s : State, Idle s →
    (∀ variant retries : Byte, 1 < variant →
      exec (.cfgWrite variant retries) s = .next { s with
        engErr := 0x0A, engErrCmd := 0, engCause := 0, engDetail := 0, engWritten := 0 }) ∧
    (∀ w count : Byte, w ≠ 1 → w ≠ 2 →
      exec (.reassemble w count) s = .next { s with
        series := [], engErr := 0x0A, engErrCmd := 0, engCause := 0, engDetail := 0, engWritten := 0 }) ∧
    (∀ kind : Byte, 1 < kind →
      exec (.planPages kind) s = .next { s with
        engErr := 0x0A, engErrCmd := 0, engCause := 0, engDetail := 0, engWritten := 0 })

/-! ### The exchange -/

/-- SEND whose first attempt gets a valid frame in each of its N slots: success, the payloads in REPLY in reception order,
one drain, one write and N reads, and nothing else changes but what an exchange writes (R150 to R160, R171). A drain that
reports an error is logged and the attempt goes on (R153). -/
def Obligations.SendCollectsEverySlotsFrame : Prop :=
  ∀ (s : State) (cmd n r : Byte) (extra : List Byte) (d w : Answer) (reads rest : List Answer)
    (payloads : List Payload),
    Idle s → s.link = true → extra.length ≤ 8 → n ≠ 0 →
    s.answers = d :: w :: (reads ++ rest) → AcceptedWrite w → reads.length = n.toNat → ValidReads cmd reads payloads →
    ∃ t, exec (.send cmd n r extra) s = .next t ∧ ExchangeDone cmd extra payloads s t ∧ ExchangeFrame s t ∧
      t.answers = rest ∧
      t.history = s.history ++ attemptEvents (requestFrame s.params s.addrVariant cmd extra) d reads

/-- R160: SEND that collects fewer valid frames than N, at least one, before a read that reports an error or returns fewer
than 13 bytes succeeds with those frames, and does not retry. A drain that reports an error is only logged (R153). -/
def Obligations.SendSucceedsWithFewerFrames : Prop :=
  ∀ (s : State) (cmd n r : Byte) (extra : List Byte) (d w e : Answer) (reads rest : List Answer)
    (payloads : List Payload),
    Idle s → s.link = true → extra.length ≤ 8 →
    s.answers = d :: w :: (reads ++ e :: rest) → AcceptedWrite w →
    1 ≤ reads.length → reads.length < n.toNat → ValidReads cmd reads payloads →
    (e.err = true ∨ (readBytes e).length < 13) →
    ∃ t, exec (.send cmd n r extra) s = .next t ∧ ExchangeDone cmd extra payloads s t ∧ ExchangeFrame s t ∧
      t.answers = rest ∧
      t.history = s.history ++ attemptEvents (requestFrame s.params s.addrVariant cmd extra) d (reads ++ [e]) ++
        (if e.err = false ∧ 0 < (readBytes e).length then [.log (.shortRead (readBytes e).length)] else [])

/-- SEND whose every write fails, each attempt with the same answers (R152, R154, R158, R159, R165, R166): exactly max(1, R)
attempts with a backoff between one and the next and none after the last; ExchangeFailed with cause TransportError, or
WriteError and the saturated count. Drains that report an error are only logged (R153). -/
def Obligations.SendRetriesAFailingWrite : Prop :=
  ∀ (s : State) (cmd n r : Byte) (extra : List Byte) (d w : Answer) (rest : List Answer),
    Idle s → s.link = true → extra.length ≤ 8 → (w.err = true ∨ w.count ≠ 13) →
    s.answers = (List.replicate (max 1 r.toNat) [d, w]).flatten ++ rest →
    ∃ t, exec (.send cmd n r extra) s = .next t ∧
      ExchangeFailedWith cmd extra (if w.err then 0x01 else 0x08) 0
        (if w.err then 0 else BitVec.ofNat 8 (min w.count 255)) s t ∧
      ExchangeFrame s t ∧ t.answers = rest ∧
      t.history = s.history ++
        attemptsEvents
          (drainEvents cmd d ++ [.write (requestFrame s.params s.addrVariant cmd extra) w.count w.err]) (max 1 r.toNat)

/-- SEND to a device that never answers: every attempt writes and reads one slot that returns no bytes; after exactly
max(1, R) attempts ExchangeFailed with cause NoValidFrames and detail NO_DATA (R156, R158, R159, R267). -/
def Obligations.SendToASilentDeviceFailsAfterAllAttempts : Prop :=
  ∀ (s : State) (cmd n r : Byte) (extra : List Byte) (d w e : Answer) (rest : List Answer),
    Idle s → s.link = true → extra.length ≤ 8 → n ≠ 0 → AcceptedWrite w → e.err = false → e.bytes = [] →
    s.answers = (List.replicate (max 1 r.toNat) [d, w, e]).flatten ++ rest →
    ∃ t, exec (.send cmd n r extra) s = .next t ∧
      ExchangeFailedWith cmd extra 0x09 0x02 0 s t ∧ ExchangeFrame s t ∧ t.answers = rest ∧
      t.history = s.history ++
        attemptsEvents (attemptEvents (requestFrame s.params s.addrVariant cmd extra) d [e]) (max 1 r.toNat)

/-- R168: SEND with N = 0 reads no slot and always fails, with detail NONE, when the writes succeed. -/
def Obligations.SendOfNoSlotsAlwaysFails : Prop :=
  ∀ (s : State) (cmd r : Byte) (extra : List Byte) (d w : Answer) (rest : List Answer),
    Idle s → s.link = true → extra.length ≤ 8 → AcceptedWrite w →
    s.answers = (List.replicate (max 1 r.toNat) [d, w]).flatten ++ rest →
    ∃ t, exec (.send cmd 0 r extra) s = .next t ∧
      ExchangeFailedWith cmd extra 0x09 0x00 0 s t ∧ ExchangeFrame s t ∧ t.answers = rest ∧
      t.history = s.history ++
        attemptsEvents (attemptEvents (requestFrame s.params s.addrVariant cmd extra) d []) (max 1 r.toNat)

/-- How an exchange that passed CHECK and ended has ended, whichever of the six operations ran it (R210), read off the
events it appended. It made A attempts, 1 ≤ A ≤ max(1, R), with A drains, A writes of the request frame, A - 1 backoffs
and at most A * N reads (R169). Where it failed it made them all, the cause registers are those of the last attempt (R159)
and the lengths of R263 are 0; where it succeeded, in whichever attempt, the replies are that attempt's (R170), and the
operation has gone on to its own last step (R214, R216, R217). -/
def Obligations.EventCountsOfAnExchange : Prop :=
  ∀ (s t : State) (i : Instr) (cmd : Byte) (extra : List Byte) (n r : Byte),
    Idle s → s.link = true → extra.length ≤ 8 → RunsExchange s i cmd extra n r → exec i s = .next t →
    t.engBusy = false →
    ∃ (attempts : Nat) (new : List Event), t.history = s.history ++ new ∧
      1 ≤ attempts ∧ attempts ≤ max 1 r.toNat ∧
      new.countP isDrain = attempts ∧ new.countP isWrite = attempts ∧ new.countP isDelay = attempts - 1 ∧
      new.countP isRead ≤ attempts * n.toNat ∧
      (∀ f k err, .write f k err ∈ new → f = requestFrame s.params s.addrVariant cmd extra) ∧
      ((t.engErr = 0x05 ∧ attempts = max 1 r.toNat ∧ t.engErrCmd = cmd ∧
          (t.engCause, t.engDetail, t.engWritten) = failureRecord cmd new ∧ t.reply = [] ∧ SameSession s t ∧
          (i = .queryCells ∨ i = .queryTemps → t.series = [])) ∨
       (EngClear t ∧ t.reply = collected cmd new ∧ 1 ≤ t.reply.length ∧ t.reply.length ≤ n.toNat ∧
          (i = .statusQuery → t.sessionValid = true ∧ t.reply = [t.sessionStatus]) ∧
          (i = .queryCells → t.series = seriesOf 2 (sessionCells s).toNat t.reply) ∧
          (i = .queryTemps → t.series = seriesOf 1 (sessionSensors s).toNat t.reply)))

/-- The state machine of R150, run by each of the six exchange operations (R210), is its pseudo-code (R151, R214, R216, R217,
R219, R220): where the transport answers every call, both end in the same state up to the two loop counters, with the
lengths R263 clears on an error; where it does not, the block is still busy. The states are compared with X.EXTRA as log
entry 6 has it, eight of the latched bytes and the rest in the model's own field, and the pseudo-code of SERIES reads EXP_IDX
as log entry 20 says. -/
def Obligations.SendIsItsPseudocode : Prop :=
  ∀ s : State, Idle s →
    (∀ cmd n r extra, FollowsPseudocode (.send cmd n r extra) s (refSend cmd n r extra s)) ∧
    FollowsPseudocode .statusQuery s (refStatusQuery s) ∧
    FollowsPseudocode .queryCells s
      (refPaginated s.params.cmd.cellVoltages (BitVec.ofNat 8 (pagePlan .cells s)) 2 (sessionCells s).toNat s) ∧
    FollowsPseudocode .queryTemps s
      (refPaginated s.params.cmd.temperatures (BitVec.ofNat 8 (pagePlan .temperatures s)) 1 (sessionSensors s).toNat s) ∧
    (∀ cmd, FollowsPseudocode (.query cmd) s (refQuery cmd s)) ∧
    (∀ cmd extra, FollowsPseudocode (.set cmd extra) s (refSet cmd extra s))

/-- R268: SEND, STATUS_QUERY, QUERY and SET on a closed link end with NotOpen, whatever their operands, with no event; the
paginated queries check the session first and end with PrerequisiteMissing, since a closed link has no session. -/
def Obligations.ExchangeOperationsNeedAnOpenLink : Prop :=
  ∀ (s : State) (i : Instr), Idle s → s.link = false →
    ((i = .statusQuery ∨ (∃ cmd, i = .query cmd) ∨ (∃ cmd extra, i = .set cmd extra) ∨
        (∃ cmd n r extra, i = .send cmd n r extra)) →
      ∃ t, exec i s = .next t ∧ Idle t ∧ EngError .notOpen t ∧ t.reply = [] ∧ t.txbuf = s.txbuf ∧
        t.history = s.history ∧ t.answers = s.answers ∧ ExchangeFrame s t) ∧
    (InvSession s → (i = .queryCells ∨ i = .queryTemps) →
      ∃ t, exec i s = .next t ∧ Idle t ∧ EngError .prerequisiteMissing t ∧ t.reply = [] ∧ t.series = [] ∧
        t.txbuf = s.txbuf ∧ t.history = s.history ∧ t.answers = s.answers)

/-- R161, R265: SEND and SET of more than 8 extra bytes on an open link end with EncodingError, with no event. -/
def Obligations.LongExtraBytesAreNotSent : Prop :=
  ∀ (s : State) (i : Instr) (cmd : Byte) (extra : List Byte), Idle s → s.link = true → 8 < extra.length →
    (i = .set cmd extra ∨ ∃ n r, i = .send cmd n r extra) →
    ∃ t, exec i s = .next t ∧ Idle t ∧ EngError .encodingError t ∧ t.reply = [] ∧ t.txbuf = s.txbuf ∧
      t.history = s.history ∧ t.answers = s.answers ∧ ExchangeFrame s t

/-! ### Session queries -/

/-- STATUS_QUERY whose first attempt gets a valid status reply: the payload is latched into SESSION.STATUS and SESSION.VALID
is 1 (R214). -/
def Obligations.StatusQueryLoadsTheSession : Prop :=
  ∀ (s : State) (d w a : Answer) (rest : List Answer) (p : Payload),
    Idle s → s.link = true → s.answers = d :: w :: a :: rest → AcceptedWrite w →
    ValidReads s.params.cmd.status [a] [p] →
    ∃ t, exec .statusQuery s = .next t ∧ ExchangeDone s.params.cmd.status [] [p] s t ∧
      t.sessionValid = true ∧ t.sessionStatus = p ∧
      SamePorts s t ∧ SameConfig s t ∧ SameOtherResults s t ∧ SamePages s t ∧ t.answers = rest ∧
      t.history = s.history ++ attemptEvents (requestFrame s.params s.addrVariant s.params.cmd.status []) d [a]

/-- QUERY whose first attempt gets a valid reply: it is REPLY[0], and the session is not written (R219, R215). -/
def Obligations.QueryReturnsTheReply : Prop :=
  ∀ (s : State) (cmd : Byte) (d w a : Answer) (rest : List Answer) (p : Payload),
    Idle s → s.link = true → s.answers = d :: w :: a :: rest → AcceptedWrite w → ValidReads cmd [a] [p] →
    ∃ t, exec (.query cmd) s = .next t ∧ ExchangeDone cmd [] [p] s t ∧ ExchangeFrame s t ∧ t.answers = rest ∧
      t.history = s.history ++ attemptEvents (requestFrame s.params s.addrVariant cmd []) d [a]

/-- SET whose first attempt gets a valid reply: the frame carries the extra bytes, the reply is REPLY[0] (R220). -/
def Obligations.SetSendsTheExtraBytes : Prop :=
  ∀ (s : State) (cmd : Byte) (extra : List Byte) (d w a : Answer) (rest : List Answer) (p : Payload),
    Idle s → s.link = true → extra.length ≤ 8 → s.answers = d :: w :: a :: rest → AcceptedWrite w →
    ValidReads cmd [a] [p] →
    ∃ t, exec (.set cmd extra) s = .next t ∧ ExchangeDone cmd extra [p] s t ∧ ExchangeFrame s t ∧ t.answers = rest ∧
      t.history = s.history ++ attemptEvents (requestFrame s.params s.addrVariant cmd extra) d [a]

/-- QUERY_CELLS whose first attempt gets a valid frame for each planned page: RES.PAGES is the plan, SERIES the 2-byte items
cut at SESSION.CELLS (R216, R218). EXP_IDX counts each page looked at, a last page stopped in the middle too (R43 and D20 of
spec/92_eei_decisions.md, log entry 20). -/
def Obligations.QueryCellsReassemblesTheCells : Prop :=
  ∀ (s : State) (d w : Answer) (reads rest : List Answer) (payloads : List Payload),
    Idle s → s.link = true → s.sessionValid = true → pagePlan .cells s ≠ 0 →
    s.answers = d :: w :: (reads ++ rest) → AcceptedWrite w → reads.length = pagePlan .cells s →
    ValidReads s.params.cmd.cellVoltages reads payloads →
    ∃ t, exec .queryCells s = .next t ∧ ExchangeDone s.params.cmd.cellVoltages [] payloads s t ∧
      t.resPages.toNat = pagePlan .cells s ∧ t.series = seriesOf 2 (sessionCells s).toNat payloads ∧
      t.expIdx = BitVec.ofNat 9 (1 + (pagesLookedAt 2 (sessionCells s).toNat payloads).length) ∧
      SamePorts s t ∧ SameSession s t ∧ SameConfig s t ∧ SameOtherResults s t ∧ t.answers = rest ∧
      t.history = s.history ++ attemptEvents (requestFrame s.params s.addrVariant s.params.cmd.cellVoltages []) d reads ++
        pageLogs (pagesLookedAt 2 (sessionCells s).toNat payloads)

/-- QUERY_TEMPS: as QUERY_CELLS, with 1-byte items and SESSION.SENSORS (R217, R218), and EXP_IDX by the same reading (R43,
D20, log entry 20). -/
def Obligations.QueryTempsReassemblesTheSensors : Prop :=
  ∀ (s : State) (d w : Answer) (reads rest : List Answer) (payloads : List Payload),
    Idle s → s.link = true → s.sessionValid = true → pagePlan .temperatures s ≠ 0 →
    s.answers = d :: w :: (reads ++ rest) → AcceptedWrite w → reads.length = pagePlan .temperatures s →
    ValidReads s.params.cmd.temperatures reads payloads →
    ∃ t, exec .queryTemps s = .next t ∧ ExchangeDone s.params.cmd.temperatures [] payloads s t ∧
      t.resPages.toNat = pagePlan .temperatures s ∧ t.series = seriesOf 1 (sessionSensors s).toNat payloads ∧
      t.expIdx = BitVec.ofNat 9 (1 + (pagesLookedAt 1 (sessionSensors s).toNat payloads).length) ∧
      SamePorts s t ∧ SameSession s t ∧ SameConfig s t ∧ SameOtherResults s t ∧ t.answers = rest ∧
      t.history = s.history ++ attemptEvents (requestFrame s.params s.addrVariant s.params.cmd.temperatures []) d reads ++
        pageLogs (pagesLookedAt 1 (sessionSensors s).toNat payloads)

/-- A paginated query that plans no page (R193: on the wired link, a session count of 0): every attempt drains, writes and
reads nothing, and the query ends with ExchangeFailed, cause NoValidFrames, detail NONE, and an empty series, whether or not
the drains report an error. -/
def Obligations.APaginatedQueryOfNoPagesFails : Prop :=
  ∀ (s : State) (d w : Answer) (rest : List Answer),
    Idle s → s.link = true → s.sessionValid = true → AcceptedWrite w →
    s.answers = (List.replicate (max 1 s.retries.toNat) [d, w]).flatten ++ rest →
    (pagePlan .cells s = 0 →
      ∃ t, exec .queryCells s = .next t ∧ ExchangeFailedWith s.params.cmd.cellVoltages [] 0x09 0x00 0 s t ∧
        t.resPages = 0 ∧ t.series = [] ∧ t.expIdx = s.expIdx ∧
        SamePorts s t ∧ SameSession s t ∧ SameConfig s t ∧ SameOtherResults s t ∧ t.answers = rest ∧
        t.history = s.history ++ attemptsEvents
          (attemptEvents (requestFrame s.params s.addrVariant s.params.cmd.cellVoltages []) d []) (max 1 s.retries.toNat)) ∧
    (pagePlan .temperatures s = 0 →
      ∃ t, exec .queryTemps s = .next t ∧ ExchangeFailedWith s.params.cmd.temperatures [] 0x09 0x00 0 s t ∧
        t.resPages = 0 ∧ t.series = [] ∧ t.expIdx = s.expIdx ∧
        SamePorts s t ∧ SameSession s t ∧ SameConfig s t ∧ SameOtherResults s t ∧ t.answers = rest ∧
        t.history = s.history ++ attemptsEvents
          (attemptEvents (requestFrame s.params s.addrVariant s.params.cmd.temperatures []) d []) (max 1 s.retries.toNat))

/-- R264: PLAN_PAGES of an admitted kind, DECODE_BALANCING and the paginated queries, with no session, end with
PrerequisiteMissing; they clear only what R263 says, append no event (R224), and do so whether or not the link is open
(R225). -/
def Obligations.SessionOperationsNeedASession : Prop :=
  ∀ s : State, Idle s → s.sessionValid = false →
    (∀ kind : Byte, kind ≤ 1 →
      exec (.planPages kind) s = .next { s with
        engErr := 0x06, engErrCmd := 0, engCause := 0, engDetail := 0, engWritten := 0 }) ∧
    (∀ p : Payload,
      exec (.decodeBalancing p) s = .next { s with
        bal := [], engErr := 0x06, engErrCmd := 0, engCause := 0, engDetail := 0, engWritten := 0 }) ∧
    (∀ i : Instr, (i = .queryCells ∨ i = .queryTemps) →
      exec i s = .next { s with
        reply := [], series := [], engErr := 0x06, engErrCmd := 0, engCause := 0, engDetail := 0, engWritten := 0 })

/-- R214: a STATUS_QUERY that ends with an error, or has not ended, leaves the session registers as they were. -/
def Obligations.AFailedStatusQueryKeepsTheSession : Prop :=
  ∀ s t : State, Idle s → exec .statusQuery s = .next t → (t.engBusy = true ∨ t.engErr ≠ 0) → SameSession s t

/-- R215, R221: of the instructions, only STATUS_QUERY, OPEN and CLOSE write the session registers; and a step without reset
that changes them takes the word of one of the three, or finishes one of the three that waited for the transport. -/
def Obligations.OnlyThreeOperationsWriteTheSession : Prop :=
  (∀ (i : Instr) (s t : State), (s.engBusy = false → Idle s) → i ≠ .statusQuery → i ≠ .openLink → i ≠ .closeLink →
    exec i s = .next t → SameSession s t) ∧
  (∀ s t : State, s.resetLine = false → (s.engBusy = false → Idle s) → step s = .next t → ¬ SameSession s t →
    (s.engBusy = false ∧ ∃ word words i, s.inbox = word :: words ∧ decodeOp word = .op i ∧
      (i = .statusQuery ∨ i = .openLink ∨ i = .closeLink)) ∨
    (s.engBusy = true ∧ (s.running = some .statusQuery ∨ s.running = some .openClosing ∨
      s.running = some .openOpening ∨ s.running = some .closing)))

/-! ### The bitmap decoders -/

/-- DECODE_BALANCING with a session and a cell count within the padded width: cell i is bit i - 1 of the payload read
big-endian (R240, R241). -/
def Obligations.DecodeBalancingReadsTheCellsBits : Prop :=
  ∀ (s : State) (p : Payload), Idle s → s.sessionValid = true →
    ((sessionCells s).toNat ≤ 48 ∨ 2 ^ ((sessionCells s).toNat - 1) ≤ be p.toList) →
    ∃ flags : List Bool,
      exec (.decodeBalancing p) s = .next { s with
        bal := flags, engErr := 0, engErrCmd := 0, engCause := 0, engDetail := 0, engWritten := 0 } ∧
      flags.length = (sessionCells s).toNat ∧
      ∀ i, 1 ≤ i → i ≤ (sessionCells s).toNat → flags[i - 1]? = some ((be p.toList).testBit (i - 1))

/-- R242: the cell count exceeds both 48 and the payload's bit length exactly when DECODE_BALANCING ends with
BitIndexRange, and then BAL_LEN is 0 (R263). -/
def Obligations.DecodeBalancingBeyondTheWidth : Prop :=
  ∀ (s : State) (p : Payload), Idle s → s.sessionValid = true →
    48 < (sessionCells s).toNat → be p.toList < 2 ^ ((sessionCells s).toNat - 1) →
    exec (.decodeBalancing p) s = .next { s with
      bal := [], engErr := 0x0B, engErrCmd := 0, engCause := 0, engDetail := 0, engWritten := 0 }

/-- DECODE_FAULTS: an entry for each set bit and for no other, by byte and then by bit, ascending, as many as the payload
has set bits; each is named by the table or by the placeholder (R243 to R245). -/
def Obligations.DecodeFaultsListsEverySetBit : Prop :=
  ∀ (s : State) (p : Payload), Idle s →
    ∃ entries : List FaultEntry,
      exec (.decodeFaults p) s = .next { s with
        fault := entries, engErr := 0, engErrCmd := 0, engCause := 0, engDetail := 0, engWritten := 0 } ∧
      (∀ j b : Fin 8, (∃ e ∈ entries, e.byte = j ∧ e.bit = b) ↔ ((p.toList.getD j.val 0).getLsbD b.val = true)) ∧
      entries.Pairwise (fun x y => 8 * x.byte.val + x.bit.val < 8 * y.byte.val + y.bit.val) ∧
      entries.length = ((List.range 64).countP (fun k => (be p.toList).testBit k)) ∧
      (∀ e ∈ entries,
        (e.name = .unknown e.byte e.bit ∧ ∀ row ∈ s.params.faultTable, ¬ (row.byte = e.byte ∧ row.bit = e.bit)) ∨
        (∃ row ∈ s.params.faultTable, row.byte = e.byte ∧ row.bit = e.bit ∧ e.name = .named row.name))

/-! ### The wire frames -/

/-- Each of the thirteen frames that arrives in a waiting slot of its own command with a correct checksum: its payload is
appended to REPLY, the slot is used up, RXSLOT and RXLEN hold it, and the read is in the history (R155, R157, R167). Running a
frame row as its arrival is the model's choice (log entry 10), and SLOT's carry is the model's own field (log entry 5). -/
def Obligations.AValidFrameFillsItsSlot : Prop :=
  ∀ (s : State) (c : WireCmd) (start addr ck : Byte) (p : Payload), slotWaiting s = true →
    s.xCmd = s.params.cmd.byte c →
    ck = checksum ([start, addr, s.params.cmd.byte c, 0x08] ++ p.toList) →
    exec (wireInstr c start addr p ck) s = .next { s with
      rxslot := ⟨start, addr, s.params.cmd.byte c, 0x08, p, ck⟩, rxlen := 13
      reply := s.reply ++ [p], slot := s.slot + 1, slotCarry := decide (s.slot = 0xFF)
      history := s.history ++
        [.read 13 ([start, addr, s.params.cmd.byte c, 0x08] ++ p.toList ++ [ck]) false] }

/-- Each of the thirteen frames that arrives in a waiting slot with a wrong checksum, or with a correct one and another
command than the exchange's: it is discarded and uses up its slot, and LASTDETAIL says why (R157, R167). Running a frame row
as its arrival is the model's choice (log entry 10), and SLOT's carry is the model's own field (log entry 5). -/
def Obligations.AnInvalidFrameUsesUpItsSlot : Prop :=
  ∀ (s : State) (c : WireCmd) (start addr ck : Byte) (p : Payload), slotWaiting s = true →
    (ck ≠ checksum ([start, addr, s.params.cmd.byte c, 0x08] ++ p.toList) ∨ s.xCmd ≠ s.params.cmd.byte c) →
    exec (wireInstr c start addr p ck) s = .next { s with
      rxslot := ⟨start, addr, s.params.cmd.byte c, 0x08, p, ck⟩, rxlen := 13
      lastDetail := if ck ≠ checksum ([start, addr, s.params.cmd.byte c, 0x08] ++ p.toList) then 0x04 else 0x05
      slot := s.slot + 1, slotCarry := decide (s.slot = 0xFF)
      history := s.history ++
        [.read 13 ([start, addr, s.params.cmd.byte c, 0x08] ++ p.toList ++ [ck]) false] }

/-- R276: a frame that arrives when no slot waits is left in the transport: the block does not change
(log entry 10). -/
def Obligations.AFrameOutsideASlotIsLeftInTheTransport : Prop :=
  ∀ (s : State) (c : WireCmd) (start addr ck : Byte) (p : Payload), slotWaiting s = false →
    exec (wireInstr c start addr p ck) s = .next s

/-! ### Invariants of every step -/

/-- Reset meets the five invariants; InvBuffers by the model's values of RXLEN and EXP_IDX (log entry 7). -/
def Obligations.ResetMeetsTheInvariants : Prop :=
  InvBusy State.reset ∧ InvSession State.reset ∧ InvEngine State.reset ∧ InvExchange State.reset ∧
  InvBuffers State.reset

/-- R40: every step keeps `ENG.BUSY = 1` exactly when `FSM != IDLE` or another operation is running. -/
def Obligations.StepKeepsTheBusyFlag : Prop :=
  ∀ s t : State, InvBusy s → step s = .next t → InvBusy t

/-- R223: every step keeps that a closed link has no session. -/
def Obligations.StepKeepsTheSessionInvariant : Prop :=
  ∀ s t : State, InvSession s → step s = .next t → InvSession t

/-- R35, R260, R266, R267: every step keeps the engine status registers to the listed codes. -/
def Obligations.StepKeepsTheEngineCodes : Prop :=
  ∀ s t : State, InvEngine s → step s = .next t → InvEngine t

/-- R24, R39, R41, R152, R167: every step keeps the exchange within its bounds, SLOT counted with its carry (log entry 5) and
X.EXTRA apart from what the model latches beside it (log entry 6). -/
def Obligations.StepKeepsTheExchangeBounds : Prop :=
  ∀ s t : State, InvExchange s → step s = .next t → InvExchange t

/-- R36, R38, R42, R43: every step keeps the buffers within their widths. -/
def Obligations.StepKeepsTheBufferWidths : Prop :=
  ∀ s t : State, InvExchange s → InvBuffers s → step s = .next t → InvBuffers t
end

