-- ==== Sys2Proof/Laws/Codec.lean ====
section
/-! SUPPORT. What the codec's functions can answer, and the byte layouts read back. -/

namespace Sys2Proof

@[simp] theorem Payload.ofList_toList (p : Payload) : Payload.ofList p.toList = p := rfl

@[simp] theorem Payload.toList_length (p : Payload) : p.toList.length = 8 := rfl

@[simp] theorem Frame.ofBytes_toBytes (f : Frame) : Frame.ofBytes f.toBytes = f := rfl

@[simp] theorem Frame.toBytes_length (f : Frame) : f.toBytes.length = 13 := rfl

namespace Machine

@[simp] theorem checksum_nil : checksum [] = 0 := rfl

@[simp] theorem checksum_cons (b : Byte) (bs : List Byte) : checksum (b :: bs) = b + checksum bs := by
  simp [checksum, BitVec.ofNat_add]

@[simp] theorem checksum_append (as bs : List Byte) : checksum (as ++ bs) = checksum as + checksum bs := by
  induction as with
  | nil => simp
  | cons a as ih => simp [ih, BitVec.add_assoc]

/-- Encode answers a frame exactly for at most 8 extra bytes (R111, R112). -/
theorem codecEncode_ok {p : Params} {v : Variant} {cmd : Byte} {extra : List Byte} (h : extra.length ≤ 8) :
    codecEncode p v cmd extra = .ok (requestFrame p v cmd extra) := by
  simp [codecEncode, Nat.not_lt.mpr h]

theorem codecEncode_long {p : Params} {v : Variant} {cmd : Byte} {extra : List Byte} (h : 8 < extra.length) :
    codecEncode p v cmd extra = .error .encodingError := by
  simp [codecEncode, h]

/-- Encode's only error is EncodingError (R111). -/
theorem codecEncode_error {p : Params} {v : Variant} {cmd : Byte} {extra : List Byte} {e : Err}
    (h : codecEncode p v cmd extra = .error e) : e = .encodingError ∧ 8 < extra.length := by
  unfold codecEncode at h
  split at h
  · exact ⟨(Except.error.inj h).symm, ‹_›⟩
  · cases h

/-- Decode answers a payload exactly when the three checks pass (R113 to R118). -/
theorem codecDecode_ok {bytes : List Byte} {exp : Byte} {p : Payload} :
    codecDecode bytes exp = .ok p ↔
      bytes.length = 13 ∧ (Frame.ofBytes bytes).ck = checksum (bytes.take 12) ∧ (Frame.ofBytes bytes).cmd = exp ∧
      p = (Frame.ofBytes bytes).payload := by
  unfold codecDecode
  by_cases h1 : bytes.length = 13 <;> by_cases h2 : (Frame.ofBytes bytes).ck = checksum (bytes.take 12) <;>
    by_cases h3 : (Frame.ofBytes bytes).cmd = exp <;> simp [h1, h2, h3, eq_comm]

/-- Decode's errors are the three of R118; on 13 bytes the first of them cannot occur (R157). -/
theorem codecDecode_error {bytes : List Byte} {exp : Byte} {e : Err} (h : codecDecode bytes exp = .error e)
    (hl : bytes.length = 13) : e = .checksumMismatch ∨ e = .commandMismatch := by
  unfold codecDecode at h
  rw [if_neg (by simp [hl])] at h
  split at h
  · exact .inl (Except.error.inj h).symm
  · split at h
    · exact .inr (Except.error.inj h).symm
    · cases h

end Machine

end Sys2Proof
end

