-- ==== Sys2Proof/Laws/Decode.lean ====
section
/-! SUPPORT. What the decoders can answer, and the thirteen frame rows as one (spec/30_encoding.md R80, R86, R95 to R97). -/

namespace Sys2Proof

/-- Every operation is read back from its code (R95). -/
@[simp] theorem opKind_opc (k : OpKind) : opKind? k.opc = some k := by cases k <;> decide

/-- A code that is read is its operation's (R95). -/
theorem opKind_some {b : Byte} {k : OpKind} (h : opKind? b = some k) : b = k.opc := by
  have := List.find?_some h
  exact (by simpa using this : k.opc = b).symm

/-- What a `LEN` field and its bytes can be read as (R96, R97). -/
theorem operandsLen_some {f : List Byte → Instr} {l : List Byte} {i : Instr} (h : operandsLen f l = some i) :
    ∃ bytes, l = lenBytes bytes ∧ bytes.length ≤ 255 ∧ i = f bytes := by
  unfold operandsLen at h
  split at h
  · cases h
  · split at h
    · rename_i hl
      cases h
      exact ⟨_, by simp [lenBytes, hl], by omega, rfl⟩
    · cases h

/-- The bytes of a frame row. -/
theorem encodeWith_wireInstr (m : CmdMap) (c : WireCmd) (start addr : Byte) (p : Payload) (ck : Byte) :
    encodeWith m (wireInstr c start addr p ck) = wireBytes (m.byte c) start addr p ck := by cases c <;> rfl

/-- An instruction that is no host operation is a frame row. -/
theorem exists_wireInstr {i : Instr} (h : i.isHostOp = false) : ∃ c start addr p ck, i = wireInstr c start addr p ck := by
  cases i with
  | frameStatus a b c d => exact ⟨.status, a, b, c, d, rfl⟩
  | frameSoc a b c d => exact ⟨.soc, a, b, c, d, rfl⟩
  | frameCellRange a b c d => exact ⟨.cellRange, a, b, c, d, rfl⟩
  | frameTempRange a b c d => exact ⟨.tempRange, a, b, c, d, rfl⟩
  | frameMosfet a b c d => exact ⟨.mosfet, a, b, c, d, rfl⟩
  | frameCellVoltages a b c d => exact ⟨.cellVoltages, a, b, c, d, rfl⟩
  | frameTemperatures a b c d => exact ⟨.temperatures, a, b, c, d, rfl⟩
  | frameBalancing a b c d => exact ⟨.balancing, a, b, c, d, rfl⟩
  | frameFaults a b c d => exact ⟨.faults, a, b, c, d, rfl⟩
  | frameSetChargeMos a b c d => exact ⟨.setChargeMos, a, b, c, d, rfl⟩
  | frameSetDischargeMos a b c d => exact ⟨.setDischargeMos, a, b, c, d, rfl⟩
  | frameSetSoc a b c d => exact ⟨.setSoc, a, b, c, d, rfl⟩
  | frameRestart a b c d => exact ⟨.restart, a, b, c, d, rfl⟩
  | _ => cases h

/-- A frame row that is read is one whose bytes these are (R80, R86). -/
theorem decodeWire_some {m : CmdMap} {bytes : List Byte} {i : Instr} (h : decodeWire m bytes = some i) :
    ∃ c start addr p ck, i = wireInstr c start addr p ck ∧ bytes = wireBytes (m.byte c) start addr p ck := by
  unfold decodeWire at h
  split at h
  · rename_i hl
    dsimp only at h
    split at h
    · rename_i h8
      simp only [Option.map_eq_some_iff] at h
      obtain ⟨c, hc, rfl⟩ := h
      refine ⟨c, _, _, _, _, rfl, ?_⟩
      have hb : m.byte c = (Frame.ofBytes bytes).cmd := by simpa using List.find?_some hc
      unfold wireBytes
      rw [hb, ← h8]
      match bytes, hl with
      | [a0, a1, a2, a3, a4, a5, a6, a7, a8, a9, a10, a11, a12], _ => rfl
    · cases h
  · cases h

namespace Machine

/-- A frame row's meaning is the arrival of its bytes. -/
theorem exec_wireInstr (c : WireCmd) (start addr : Byte) (p : Payload) (ck : Byte) (s : State) :
    exec (wireInstr c start addr p ck) s = receiveFrame (wireBytes (s.params.cmd.byte c) start addr p ck) s := by
  cases c <;> rfl

/-- An arriving frame is the waiting slot's 13 bytes, or leaves the block alone (R155, R276). -/
theorem receiveFrame_cases (bytes : List Byte) (s : State) :
    (slotWaiting s = true ∧ receiveFrame bytes s = .next (slotStep { count := 0, bytes := bytes, err := false } s)) ∨
    (slotWaiting s = false ∧ receiveFrame bytes s = .next s) := by
  cases h : slotWaiting s <;> simp [receiveFrame, h]

end Machine

end Sys2Proof
end

