-- ==== Sys2Proof/Laws/State.lean ====
section
/-! SUPPORT. One lemma per field per named update of the state. -/

namespace Sys2Proof.Machine

/-! ### `emit` -/

@[simp] theorem emit_params (e : Event) (s : State) : (emit e s).params = s.params := rfl
@[simp] theorem emit_link (e : Event) (s : State) : (emit e s).link = s.link := rfl
@[simp] theorem emit_addrVariant (e : Event) (s : State) : (emit e s).addrVariant = s.addrVariant := rfl
@[simp] theorem emit_retries (e : Event) (s : State) : (emit e s).retries = s.retries := rfl
@[simp] theorem emit_sessionValid (e : Event) (s : State) : (emit e s).sessionValid = s.sessionValid := rfl
@[simp] theorem emit_sessionStatus (e : Event) (s : State) : (emit e s).sessionStatus = s.sessionStatus := rfl
@[simp] theorem emit_engBusy (e : Event) (s : State) : (emit e s).engBusy = s.engBusy := rfl
@[simp] theorem emit_engErr (e : Event) (s : State) : (emit e s).engErr = s.engErr := rfl
@[simp] theorem emit_engErrCmd (e : Event) (s : State) : (emit e s).engErrCmd = s.engErrCmd := rfl
@[simp] theorem emit_engCause (e : Event) (s : State) : (emit e s).engCause = s.engCause := rfl
@[simp] theorem emit_engDetail (e : Event) (s : State) : (emit e s).engDetail = s.engDetail := rfl
@[simp] theorem emit_engWritten (e : Event) (s : State) : (emit e s).engWritten = s.engWritten := rfl
@[simp] theorem emit_resChecksum (e : Event) (s : State) : (emit e s).resChecksum = s.resChecksum := rfl
@[simp] theorem emit_txbuf (e : Event) (s : State) : (emit e s).txbuf = s.txbuf := rfl
@[simp] theorem emit_resPayload (e : Event) (s : State) : (emit e s).resPayload = s.resPayload := rfl
@[simp] theorem emit_resPages (e : Event) (s : State) : (emit e s).resPages = s.resPages := rfl
@[simp] theorem emit_bal (e : Event) (s : State) : (emit e s).bal = s.bal := rfl
@[simp] theorem emit_fault (e : Event) (s : State) : (emit e s).fault = s.fault := rfl
@[simp] theorem emit_reply (e : Event) (s : State) : (emit e s).reply = s.reply := rfl
@[simp] theorem emit_series (e : Event) (s : State) : (emit e s).series = s.series := rfl
@[simp] theorem emit_fsm (e : Event) (s : State) : (emit e s).fsm = s.fsm := rfl
@[simp] theorem emit_attempt (e : Event) (s : State) : (emit e s).attempt = s.attempt := rfl
@[simp] theorem emit_rEff (e : Event) (s : State) : (emit e s).rEff = s.rEff := rfl
@[simp] theorem emit_slot (e : Event) (s : State) : (emit e s).slot = s.slot := rfl
@[simp] theorem emit_slotCarry (e : Event) (s : State) : (emit e s).slotCarry = s.slotCarry := rfl
@[simp] theorem emit_lastCause (e : Event) (s : State) : (emit e s).lastCause = s.lastCause := rfl
@[simp] theorem emit_lastDetail (e : Event) (s : State) : (emit e s).lastDetail = s.lastDetail := rfl
@[simp] theorem emit_lastWritten (e : Event) (s : State) : (emit e s).lastWritten = s.lastWritten := rfl
@[simp] theorem emit_xCmd (e : Event) (s : State) : (emit e s).xCmd = s.xCmd := rfl
@[simp] theorem emit_xExtra (e : Event) (s : State) : (emit e s).xExtra = s.xExtra := rfl
@[simp] theorem emit_xRest (e : Event) (s : State) : (emit e s).xRest = s.xRest := rfl
@[simp] theorem emit_xN (e : Event) (s : State) : (emit e s).xN = s.xN := rfl
@[simp] theorem emit_rxslot (e : Event) (s : State) : (emit e s).rxslot = s.rxslot := rfl
@[simp] theorem emit_rxlen (e : Event) (s : State) : (emit e s).rxlen = s.rxlen := rfl
@[simp] theorem emit_expIdx (e : Event) (s : State) : (emit e s).expIdx = s.expIdx := rfl
@[simp] theorem emit_running (e : Event) (s : State) : (emit e s).running = s.running := rfl
@[simp] theorem emit_inbox (e : Event) (s : State) : (emit e s).inbox = s.inbox := rfl
@[simp] theorem emit_answers (e : Event) (s : State) : (emit e s).answers = s.answers := rfl
@[simp] theorem emit_resetLine (e : Event) (s : State) : (emit e s).resetLine = s.resetLine := rfl
@[simp] theorem emit_history (e : Event) (s : State) : (emit e s).history = s.history ++ [e] := rfl
@[simp] theorem emit_draws (e : Event) (s : State) : (emit e s).draws = s.draws := rfl

/-! ### `emitLogs` -/

@[simp] theorem emitLogs_params (es : List LogEvent) (s : State) : (emitLogs es s).params = s.params := rfl
@[simp] theorem emitLogs_link (es : List LogEvent) (s : State) : (emitLogs es s).link = s.link := rfl
@[simp] theorem emitLogs_addrVariant (es : List LogEvent) (s : State) : (emitLogs es s).addrVariant = s.addrVariant := rfl
@[simp] theorem emitLogs_retries (es : List LogEvent) (s : State) : (emitLogs es s).retries = s.retries := rfl
@[simp] theorem emitLogs_sessionValid (es : List LogEvent) (s : State) : (emitLogs es s).sessionValid = s.sessionValid := rfl
@[simp] theorem emitLogs_sessionStatus (es : List LogEvent) (s : State) : (emitLogs es s).sessionStatus = s.sessionStatus := rfl
@[simp] theorem emitLogs_engBusy (es : List LogEvent) (s : State) : (emitLogs es s).engBusy = s.engBusy := rfl
@[simp] theorem emitLogs_engErr (es : List LogEvent) (s : State) : (emitLogs es s).engErr = s.engErr := rfl
@[simp] theorem emitLogs_engErrCmd (es : List LogEvent) (s : State) : (emitLogs es s).engErrCmd = s.engErrCmd := rfl
@[simp] theorem emitLogs_engCause (es : List LogEvent) (s : State) : (emitLogs es s).engCause = s.engCause := rfl
@[simp] theorem emitLogs_engDetail (es : List LogEvent) (s : State) : (emitLogs es s).engDetail = s.engDetail := rfl
@[simp] theorem emitLogs_engWritten (es : List LogEvent) (s : State) : (emitLogs es s).engWritten = s.engWritten := rfl
@[simp] theorem emitLogs_resChecksum (es : List LogEvent) (s : State) : (emitLogs es s).resChecksum = s.resChecksum := rfl
@[simp] theorem emitLogs_txbuf (es : List LogEvent) (s : State) : (emitLogs es s).txbuf = s.txbuf := rfl
@[simp] theorem emitLogs_resPayload (es : List LogEvent) (s : State) : (emitLogs es s).resPayload = s.resPayload := rfl
@[simp] theorem emitLogs_resPages (es : List LogEvent) (s : State) : (emitLogs es s).resPages = s.resPages := rfl
@[simp] theorem emitLogs_bal (es : List LogEvent) (s : State) : (emitLogs es s).bal = s.bal := rfl
@[simp] theorem emitLogs_fault (es : List LogEvent) (s : State) : (emitLogs es s).fault = s.fault := rfl
@[simp] theorem emitLogs_reply (es : List LogEvent) (s : State) : (emitLogs es s).reply = s.reply := rfl
@[simp] theorem emitLogs_series (es : List LogEvent) (s : State) : (emitLogs es s).series = s.series := rfl
@[simp] theorem emitLogs_fsm (es : List LogEvent) (s : State) : (emitLogs es s).fsm = s.fsm := rfl
@[simp] theorem emitLogs_attempt (es : List LogEvent) (s : State) : (emitLogs es s).attempt = s.attempt := rfl
@[simp] theorem emitLogs_rEff (es : List LogEvent) (s : State) : (emitLogs es s).rEff = s.rEff := rfl
@[simp] theorem emitLogs_slot (es : List LogEvent) (s : State) : (emitLogs es s).slot = s.slot := rfl
@[simp] theorem emitLogs_slotCarry (es : List LogEvent) (s : State) : (emitLogs es s).slotCarry = s.slotCarry := rfl
@[simp] theorem emitLogs_lastCause (es : List LogEvent) (s : State) : (emitLogs es s).lastCause = s.lastCause := rfl
@[simp] theorem emitLogs_lastDetail (es : List LogEvent) (s : State) : (emitLogs es s).lastDetail = s.lastDetail := rfl
@[simp] theorem emitLogs_lastWritten (es : List LogEvent) (s : State) : (emitLogs es s).lastWritten = s.lastWritten := rfl
@[simp] theorem emitLogs_xCmd (es : List LogEvent) (s : State) : (emitLogs es s).xCmd = s.xCmd := rfl
@[simp] theorem emitLogs_xExtra (es : List LogEvent) (s : State) : (emitLogs es s).xExtra = s.xExtra := rfl
@[simp] theorem emitLogs_xRest (es : List LogEvent) (s : State) : (emitLogs es s).xRest = s.xRest := rfl
@[simp] theorem emitLogs_xN (es : List LogEvent) (s : State) : (emitLogs es s).xN = s.xN := rfl
@[simp] theorem emitLogs_rxslot (es : List LogEvent) (s : State) : (emitLogs es s).rxslot = s.rxslot := rfl
@[simp] theorem emitLogs_rxlen (es : List LogEvent) (s : State) : (emitLogs es s).rxlen = s.rxlen := rfl
@[simp] theorem emitLogs_expIdx (es : List LogEvent) (s : State) : (emitLogs es s).expIdx = s.expIdx := rfl
@[simp] theorem emitLogs_running (es : List LogEvent) (s : State) : (emitLogs es s).running = s.running := rfl
@[simp] theorem emitLogs_inbox (es : List LogEvent) (s : State) : (emitLogs es s).inbox = s.inbox := rfl
@[simp] theorem emitLogs_answers (es : List LogEvent) (s : State) : (emitLogs es s).answers = s.answers := rfl
@[simp] theorem emitLogs_resetLine (es : List LogEvent) (s : State) : (emitLogs es s).resetLine = s.resetLine := rfl
@[simp] theorem emitLogs_history (es : List LogEvent) (s : State) : (emitLogs es s).history = s.history ++ es.map Event.log := rfl
@[simp] theorem emitLogs_draws (es : List LogEvent) (s : State) : (emitLogs es s).draws = s.draws := rfl

/-! ### `complete` -/

@[simp] theorem complete_params (s : State) : (complete s).params = s.params := rfl
@[simp] theorem complete_link (s : State) : (complete s).link = s.link := rfl
@[simp] theorem complete_addrVariant (s : State) : (complete s).addrVariant = s.addrVariant := rfl
@[simp] theorem complete_retries (s : State) : (complete s).retries = s.retries := rfl
@[simp] theorem complete_sessionValid (s : State) : (complete s).sessionValid = s.sessionValid := rfl
@[simp] theorem complete_sessionStatus (s : State) : (complete s).sessionStatus = s.sessionStatus := rfl
@[simp] theorem complete_engBusy (s : State) : (complete s).engBusy = false := rfl
@[simp] theorem complete_engErr (s : State) : (complete s).engErr = 0 := rfl
@[simp] theorem complete_engErrCmd (s : State) : (complete s).engErrCmd = 0 := rfl
@[simp] theorem complete_engCause (s : State) : (complete s).engCause = 0 := rfl
@[simp] theorem complete_engDetail (s : State) : (complete s).engDetail = 0 := rfl
@[simp] theorem complete_engWritten (s : State) : (complete s).engWritten = 0 := rfl
@[simp] theorem complete_resChecksum (s : State) : (complete s).resChecksum = s.resChecksum := rfl
@[simp] theorem complete_txbuf (s : State) : (complete s).txbuf = s.txbuf := rfl
@[simp] theorem complete_resPayload (s : State) : (complete s).resPayload = s.resPayload := rfl
@[simp] theorem complete_resPages (s : State) : (complete s).resPages = s.resPages := rfl
@[simp] theorem complete_bal (s : State) : (complete s).bal = s.bal := rfl
@[simp] theorem complete_fault (s : State) : (complete s).fault = s.fault := rfl
@[simp] theorem complete_reply (s : State) : (complete s).reply = s.reply := rfl
@[simp] theorem complete_series (s : State) : (complete s).series = s.series := rfl
@[simp] theorem complete_fsm (s : State) : (complete s).fsm = .idle := rfl
@[simp] theorem complete_attempt (s : State) : (complete s).attempt = s.attempt := rfl
@[simp] theorem complete_rEff (s : State) : (complete s).rEff = s.rEff := rfl
@[simp] theorem complete_slot (s : State) : (complete s).slot = s.slot := rfl
@[simp] theorem complete_slotCarry (s : State) : (complete s).slotCarry = s.slotCarry := rfl
@[simp] theorem complete_lastCause (s : State) : (complete s).lastCause = s.lastCause := rfl
@[simp] theorem complete_lastDetail (s : State) : (complete s).lastDetail = s.lastDetail := rfl
@[simp] theorem complete_lastWritten (s : State) : (complete s).lastWritten = s.lastWritten := rfl
@[simp] theorem complete_xCmd (s : State) : (complete s).xCmd = s.xCmd := rfl
@[simp] theorem complete_xExtra (s : State) : (complete s).xExtra = s.xExtra := rfl
@[simp] theorem complete_xRest (s : State) : (complete s).xRest = s.xRest := rfl
@[simp] theorem complete_xN (s : State) : (complete s).xN = s.xN := rfl
@[simp] theorem complete_rxslot (s : State) : (complete s).rxslot = s.rxslot := rfl
@[simp] theorem complete_rxlen (s : State) : (complete s).rxlen = s.rxlen := rfl
@[simp] theorem complete_expIdx (s : State) : (complete s).expIdx = s.expIdx := rfl
@[simp] theorem complete_running (s : State) : (complete s).running = none := rfl
@[simp] theorem complete_inbox (s : State) : (complete s).inbox = s.inbox := rfl
@[simp] theorem complete_answers (s : State) : (complete s).answers = s.answers := rfl
@[simp] theorem complete_resetLine (s : State) : (complete s).resetLine = s.resetLine := rfl
@[simp] theorem complete_history (s : State) : (complete s).history = s.history := rfl
@[simp] theorem complete_draws (s : State) : (complete s).draws = s.draws := rfl

/-! ### `raise` -/

@[simp] theorem raise_params (e : Err) (s : State) : (raise e s).params = s.params := by unfold raise engFailure; split <;> rfl
@[simp] theorem raise_link (e : Err) (s : State) : (raise e s).link = s.link := by unfold raise engFailure; split <;> rfl
@[simp] theorem raise_addrVariant (e : Err) (s : State) : (raise e s).addrVariant = s.addrVariant := by unfold raise engFailure; split <;> rfl
@[simp] theorem raise_retries (e : Err) (s : State) : (raise e s).retries = s.retries := by unfold raise engFailure; split <;> rfl
@[simp] theorem raise_sessionValid (e : Err) (s : State) : (raise e s).sessionValid = s.sessionValid := by unfold raise engFailure; split <;> rfl
@[simp] theorem raise_sessionStatus (e : Err) (s : State) : (raise e s).sessionStatus = s.sessionStatus := by unfold raise engFailure; split <;> rfl
@[simp] theorem raise_engBusy (e : Err) (s : State) : (raise e s).engBusy = false := by unfold raise engFailure; split <;> rfl
@[simp] theorem raise_engErr (e : Err) (s : State) : (raise e s).engErr = errCode e := by unfold raise engFailure; split <;> rfl
@[simp] theorem raise_resChecksum (e : Err) (s : State) : (raise e s).resChecksum = s.resChecksum := by unfold raise engFailure; split <;> rfl
@[simp] theorem raise_txbuf (e : Err) (s : State) : (raise e s).txbuf = s.txbuf := by unfold raise engFailure; split <;> rfl
@[simp] theorem raise_resPayload (e : Err) (s : State) : (raise e s).resPayload = s.resPayload := by unfold raise engFailure; split <;> rfl
@[simp] theorem raise_resPages (e : Err) (s : State) : (raise e s).resPages = s.resPages := by unfold raise engFailure; split <;> rfl
@[simp] theorem raise_bal (e : Err) (s : State) : (raise e s).bal = s.bal := by unfold raise engFailure; split <;> rfl
@[simp] theorem raise_fault (e : Err) (s : State) : (raise e s).fault = s.fault := by unfold raise engFailure; split <;> rfl
@[simp] theorem raise_reply (e : Err) (s : State) : (raise e s).reply = s.reply := by unfold raise engFailure; split <;> rfl
@[simp] theorem raise_series (e : Err) (s : State) : (raise e s).series = s.series := by unfold raise engFailure; split <;> rfl
@[simp] theorem raise_fsm (e : Err) (s : State) : (raise e s).fsm = .idle := by unfold raise engFailure; split <;> rfl
@[simp] theorem raise_attempt (e : Err) (s : State) : (raise e s).attempt = s.attempt := by unfold raise engFailure; split <;> rfl
@[simp] theorem raise_rEff (e : Err) (s : State) : (raise e s).rEff = s.rEff := by unfold raise engFailure; split <;> rfl
@[simp] theorem raise_slot (e : Err) (s : State) : (raise e s).slot = s.slot := by unfold raise engFailure; split <;> rfl
@[simp] theorem raise_slotCarry (e : Err) (s : State) : (raise e s).slotCarry = s.slotCarry := by unfold raise engFailure; split <;> rfl
@[simp] theorem raise_lastCause (e : Err) (s : State) : (raise e s).lastCause = s.lastCause := by unfold raise engFailure; split <;> rfl
@[simp] theorem raise_lastDetail (e : Err) (s : State) : (raise e s).lastDetail = s.lastDetail := by unfold raise engFailure; split <;> rfl
@[simp] theorem raise_lastWritten (e : Err) (s : State) : (raise e s).lastWritten = s.lastWritten := by unfold raise engFailure; split <;> rfl
@[simp] theorem raise_xCmd (e : Err) (s : State) : (raise e s).xCmd = s.xCmd := by unfold raise engFailure; split <;> rfl
@[simp] theorem raise_xExtra (e : Err) (s : State) : (raise e s).xExtra = s.xExtra := by unfold raise engFailure; split <;> rfl
@[simp] theorem raise_xRest (e : Err) (s : State) : (raise e s).xRest = s.xRest := by unfold raise engFailure; split <;> rfl
@[simp] theorem raise_xN (e : Err) (s : State) : (raise e s).xN = s.xN := by unfold raise engFailure; split <;> rfl
@[simp] theorem raise_rxslot (e : Err) (s : State) : (raise e s).rxslot = s.rxslot := by unfold raise engFailure; split <;> rfl
@[simp] theorem raise_rxlen (e : Err) (s : State) : (raise e s).rxlen = s.rxlen := by unfold raise engFailure; split <;> rfl
@[simp] theorem raise_expIdx (e : Err) (s : State) : (raise e s).expIdx = s.expIdx := by unfold raise engFailure; split <;> rfl
@[simp] theorem raise_running (e : Err) (s : State) : (raise e s).running = none := by unfold raise engFailure; split <;> rfl
@[simp] theorem raise_inbox (e : Err) (s : State) : (raise e s).inbox = s.inbox := by unfold raise engFailure; split <;> rfl
@[simp] theorem raise_answers (e : Err) (s : State) : (raise e s).answers = s.answers := by unfold raise engFailure; split <;> rfl
@[simp] theorem raise_resetLine (e : Err) (s : State) : (raise e s).resetLine = s.resetLine := by unfold raise engFailure; split <;> rfl
@[simp] theorem raise_history (e : Err) (s : State) : (raise e s).history = s.history := by unfold raise engFailure; split <;> rfl
@[simp] theorem raise_draws (e : Err) (s : State) : (raise e s).draws = s.draws := by unfold raise engFailure; split <;> rfl

/-! ### `dropReply` -/

@[simp] theorem dropReply_params (s : State) : (dropReply s).params = s.params := rfl
@[simp] theorem dropReply_link (s : State) : (dropReply s).link = s.link := rfl
@[simp] theorem dropReply_addrVariant (s : State) : (dropReply s).addrVariant = s.addrVariant := rfl
@[simp] theorem dropReply_retries (s : State) : (dropReply s).retries = s.retries := rfl
@[simp] theorem dropReply_sessionValid (s : State) : (dropReply s).sessionValid = s.sessionValid := rfl
@[simp] theorem dropReply_sessionStatus (s : State) : (dropReply s).sessionStatus = s.sessionStatus := rfl
@[simp] theorem dropReply_engBusy (s : State) : (dropReply s).engBusy = s.engBusy := rfl
@[simp] theorem dropReply_engErr (s : State) : (dropReply s).engErr = s.engErr := rfl
@[simp] theorem dropReply_engErrCmd (s : State) : (dropReply s).engErrCmd = s.engErrCmd := rfl
@[simp] theorem dropReply_engCause (s : State) : (dropReply s).engCause = s.engCause := rfl
@[simp] theorem dropReply_engDetail (s : State) : (dropReply s).engDetail = s.engDetail := rfl
@[simp] theorem dropReply_engWritten (s : State) : (dropReply s).engWritten = s.engWritten := rfl
@[simp] theorem dropReply_resChecksum (s : State) : (dropReply s).resChecksum = s.resChecksum := rfl
@[simp] theorem dropReply_txbuf (s : State) : (dropReply s).txbuf = s.txbuf := rfl
@[simp] theorem dropReply_resPayload (s : State) : (dropReply s).resPayload = s.resPayload := rfl
@[simp] theorem dropReply_resPages (s : State) : (dropReply s).resPages = s.resPages := rfl
@[simp] theorem dropReply_bal (s : State) : (dropReply s).bal = s.bal := rfl
@[simp] theorem dropReply_fault (s : State) : (dropReply s).fault = s.fault := rfl
@[simp] theorem dropReply_reply (s : State) : (dropReply s).reply = [] := rfl
@[simp] theorem dropReply_series (s : State) : (dropReply s).series = s.series := rfl
@[simp] theorem dropReply_fsm (s : State) : (dropReply s).fsm = s.fsm := rfl
@[simp] theorem dropReply_attempt (s : State) : (dropReply s).attempt = s.attempt := rfl
@[simp] theorem dropReply_rEff (s : State) : (dropReply s).rEff = s.rEff := rfl
@[simp] theorem dropReply_slot (s : State) : (dropReply s).slot = s.slot := rfl
@[simp] theorem dropReply_slotCarry (s : State) : (dropReply s).slotCarry = s.slotCarry := rfl
@[simp] theorem dropReply_lastCause (s : State) : (dropReply s).lastCause = s.lastCause := rfl
@[simp] theorem dropReply_lastDetail (s : State) : (dropReply s).lastDetail = s.lastDetail := rfl
@[simp] theorem dropReply_lastWritten (s : State) : (dropReply s).lastWritten = s.lastWritten := rfl
@[simp] theorem dropReply_xCmd (s : State) : (dropReply s).xCmd = s.xCmd := rfl
@[simp] theorem dropReply_xExtra (s : State) : (dropReply s).xExtra = s.xExtra := rfl
@[simp] theorem dropReply_xRest (s : State) : (dropReply s).xRest = s.xRest := rfl
@[simp] theorem dropReply_xN (s : State) : (dropReply s).xN = s.xN := rfl
@[simp] theorem dropReply_rxslot (s : State) : (dropReply s).rxslot = s.rxslot := rfl
@[simp] theorem dropReply_rxlen (s : State) : (dropReply s).rxlen = s.rxlen := rfl
@[simp] theorem dropReply_expIdx (s : State) : (dropReply s).expIdx = s.expIdx := rfl
@[simp] theorem dropReply_running (s : State) : (dropReply s).running = s.running := rfl
@[simp] theorem dropReply_inbox (s : State) : (dropReply s).inbox = s.inbox := rfl
@[simp] theorem dropReply_answers (s : State) : (dropReply s).answers = s.answers := rfl
@[simp] theorem dropReply_resetLine (s : State) : (dropReply s).resetLine = s.resetLine := rfl
@[simp] theorem dropReply_history (s : State) : (dropReply s).history = s.history := rfl
@[simp] theorem dropReply_draws (s : State) : (dropReply s).draws = s.draws := rfl

/-! ### `dropSeries` -/

@[simp] theorem dropSeries_params (s : State) : (dropSeries s).params = s.params := rfl
@[simp] theorem dropSeries_link (s : State) : (dropSeries s).link = s.link := rfl
@[simp] theorem dropSeries_addrVariant (s : State) : (dropSeries s).addrVariant = s.addrVariant := rfl
@[simp] theorem dropSeries_retries (s : State) : (dropSeries s).retries = s.retries := rfl
@[simp] theorem dropSeries_sessionValid (s : State) : (dropSeries s).sessionValid = s.sessionValid := rfl
@[simp] theorem dropSeries_sessionStatus (s : State) : (dropSeries s).sessionStatus = s.sessionStatus := rfl
@[simp] theorem dropSeries_engBusy (s : State) : (dropSeries s).engBusy = s.engBusy := rfl
@[simp] theorem dropSeries_engErr (s : State) : (dropSeries s).engErr = s.engErr := rfl
@[simp] theorem dropSeries_engErrCmd (s : State) : (dropSeries s).engErrCmd = s.engErrCmd := rfl
@[simp] theorem dropSeries_engCause (s : State) : (dropSeries s).engCause = s.engCause := rfl
@[simp] theorem dropSeries_engDetail (s : State) : (dropSeries s).engDetail = s.engDetail := rfl
@[simp] theorem dropSeries_engWritten (s : State) : (dropSeries s).engWritten = s.engWritten := rfl
@[simp] theorem dropSeries_resChecksum (s : State) : (dropSeries s).resChecksum = s.resChecksum := rfl
@[simp] theorem dropSeries_txbuf (s : State) : (dropSeries s).txbuf = s.txbuf := rfl
@[simp] theorem dropSeries_resPayload (s : State) : (dropSeries s).resPayload = s.resPayload := rfl
@[simp] theorem dropSeries_resPages (s : State) : (dropSeries s).resPages = s.resPages := rfl
@[simp] theorem dropSeries_bal (s : State) : (dropSeries s).bal = s.bal := rfl
@[simp] theorem dropSeries_fault (s : State) : (dropSeries s).fault = s.fault := rfl
@[simp] theorem dropSeries_reply (s : State) : (dropSeries s).reply = s.reply := rfl
@[simp] theorem dropSeries_series (s : State) : (dropSeries s).series = [] := rfl
@[simp] theorem dropSeries_fsm (s : State) : (dropSeries s).fsm = s.fsm := rfl
@[simp] theorem dropSeries_attempt (s : State) : (dropSeries s).attempt = s.attempt := rfl
@[simp] theorem dropSeries_rEff (s : State) : (dropSeries s).rEff = s.rEff := rfl
@[simp] theorem dropSeries_slot (s : State) : (dropSeries s).slot = s.slot := rfl
@[simp] theorem dropSeries_slotCarry (s : State) : (dropSeries s).slotCarry = s.slotCarry := rfl
@[simp] theorem dropSeries_lastCause (s : State) : (dropSeries s).lastCause = s.lastCause := rfl
@[simp] theorem dropSeries_lastDetail (s : State) : (dropSeries s).lastDetail = s.lastDetail := rfl
@[simp] theorem dropSeries_lastWritten (s : State) : (dropSeries s).lastWritten = s.lastWritten := rfl
@[simp] theorem dropSeries_xCmd (s : State) : (dropSeries s).xCmd = s.xCmd := rfl
@[simp] theorem dropSeries_xExtra (s : State) : (dropSeries s).xExtra = s.xExtra := rfl
@[simp] theorem dropSeries_xRest (s : State) : (dropSeries s).xRest = s.xRest := rfl
@[simp] theorem dropSeries_xN (s : State) : (dropSeries s).xN = s.xN := rfl
@[simp] theorem dropSeries_rxslot (s : State) : (dropSeries s).rxslot = s.rxslot := rfl
@[simp] theorem dropSeries_rxlen (s : State) : (dropSeries s).rxlen = s.rxlen := rfl
@[simp] theorem dropSeries_expIdx (s : State) : (dropSeries s).expIdx = s.expIdx := rfl
@[simp] theorem dropSeries_running (s : State) : (dropSeries s).running = s.running := rfl
@[simp] theorem dropSeries_inbox (s : State) : (dropSeries s).inbox = s.inbox := rfl
@[simp] theorem dropSeries_answers (s : State) : (dropSeries s).answers = s.answers := rfl
@[simp] theorem dropSeries_resetLine (s : State) : (dropSeries s).resetLine = s.resetLine := rfl
@[simp] theorem dropSeries_history (s : State) : (dropSeries s).history = s.history := rfl
@[simp] theorem dropSeries_draws (s : State) : (dropSeries s).draws = s.draws := rfl

/-! ### `dropBal` -/

@[simp] theorem dropBal_params (s : State) : (dropBal s).params = s.params := rfl
@[simp] theorem dropBal_link (s : State) : (dropBal s).link = s.link := rfl
@[simp] theorem dropBal_addrVariant (s : State) : (dropBal s).addrVariant = s.addrVariant := rfl
@[simp] theorem dropBal_retries (s : State) : (dropBal s).retries = s.retries := rfl
@[simp] theorem dropBal_sessionValid (s : State) : (dropBal s).sessionValid = s.sessionValid := rfl
@[simp] theorem dropBal_sessionStatus (s : State) : (dropBal s).sessionStatus = s.sessionStatus := rfl
@[simp] theorem dropBal_engBusy (s : State) : (dropBal s).engBusy = s.engBusy := rfl
@[simp] theorem dropBal_engErr (s : State) : (dropBal s).engErr = s.engErr := rfl
@[simp] theorem dropBal_engErrCmd (s : State) : (dropBal s).engErrCmd = s.engErrCmd := rfl
@[simp] theorem dropBal_engCause (s : State) : (dropBal s).engCause = s.engCause := rfl
@[simp] theorem dropBal_engDetail (s : State) : (dropBal s).engDetail = s.engDetail := rfl
@[simp] theorem dropBal_engWritten (s : State) : (dropBal s).engWritten = s.engWritten := rfl
@[simp] theorem dropBal_resChecksum (s : State) : (dropBal s).resChecksum = s.resChecksum := rfl
@[simp] theorem dropBal_txbuf (s : State) : (dropBal s).txbuf = s.txbuf := rfl
@[simp] theorem dropBal_resPayload (s : State) : (dropBal s).resPayload = s.resPayload := rfl
@[simp] theorem dropBal_resPages (s : State) : (dropBal s).resPages = s.resPages := rfl
@[simp] theorem dropBal_bal (s : State) : (dropBal s).bal = [] := rfl
@[simp] theorem dropBal_fault (s : State) : (dropBal s).fault = s.fault := rfl
@[simp] theorem dropBal_reply (s : State) : (dropBal s).reply = s.reply := rfl
@[simp] theorem dropBal_series (s : State) : (dropBal s).series = s.series := rfl
@[simp] theorem dropBal_fsm (s : State) : (dropBal s).fsm = s.fsm := rfl
@[simp] theorem dropBal_attempt (s : State) : (dropBal s).attempt = s.attempt := rfl
@[simp] theorem dropBal_rEff (s : State) : (dropBal s).rEff = s.rEff := rfl
@[simp] theorem dropBal_slot (s : State) : (dropBal s).slot = s.slot := rfl
@[simp] theorem dropBal_slotCarry (s : State) : (dropBal s).slotCarry = s.slotCarry := rfl
@[simp] theorem dropBal_lastCause (s : State) : (dropBal s).lastCause = s.lastCause := rfl
@[simp] theorem dropBal_lastDetail (s : State) : (dropBal s).lastDetail = s.lastDetail := rfl
@[simp] theorem dropBal_lastWritten (s : State) : (dropBal s).lastWritten = s.lastWritten := rfl
@[simp] theorem dropBal_xCmd (s : State) : (dropBal s).xCmd = s.xCmd := rfl
@[simp] theorem dropBal_xExtra (s : State) : (dropBal s).xExtra = s.xExtra := rfl
@[simp] theorem dropBal_xRest (s : State) : (dropBal s).xRest = s.xRest := rfl
@[simp] theorem dropBal_xN (s : State) : (dropBal s).xN = s.xN := rfl
@[simp] theorem dropBal_rxslot (s : State) : (dropBal s).rxslot = s.rxslot := rfl
@[simp] theorem dropBal_rxlen (s : State) : (dropBal s).rxlen = s.rxlen := rfl
@[simp] theorem dropBal_expIdx (s : State) : (dropBal s).expIdx = s.expIdx := rfl
@[simp] theorem dropBal_running (s : State) : (dropBal s).running = s.running := rfl
@[simp] theorem dropBal_inbox (s : State) : (dropBal s).inbox = s.inbox := rfl
@[simp] theorem dropBal_answers (s : State) : (dropBal s).answers = s.answers := rfl
@[simp] theorem dropBal_resetLine (s : State) : (dropBal s).resetLine = s.resetLine := rfl
@[simp] theorem dropBal_history (s : State) : (dropBal s).history = s.history := rfl
@[simp] theorem dropBal_draws (s : State) : (dropBal s).draws = s.draws := rfl

/-! ### `clearSession` -/

@[simp] theorem clearSession_params (s : State) : (clearSession s).params = s.params := rfl
@[simp] theorem clearSession_link (s : State) : (clearSession s).link = s.link := rfl
@[simp] theorem clearSession_addrVariant (s : State) : (clearSession s).addrVariant = s.addrVariant := rfl
@[simp] theorem clearSession_retries (s : State) : (clearSession s).retries = s.retries := rfl
@[simp] theorem clearSession_sessionValid (s : State) : (clearSession s).sessionValid = false := rfl
@[simp] theorem clearSession_sessionStatus (s : State) : (clearSession s).sessionStatus = Payload.zero := rfl
@[simp] theorem clearSession_engBusy (s : State) : (clearSession s).engBusy = s.engBusy := rfl
@[simp] theorem clearSession_engErr (s : State) : (clearSession s).engErr = s.engErr := rfl
@[simp] theorem clearSession_engErrCmd (s : State) : (clearSession s).engErrCmd = s.engErrCmd := rfl
@[simp] theorem clearSession_engCause (s : State) : (clearSession s).engCause = s.engCause := rfl
@[simp] theorem clearSession_engDetail (s : State) : (clearSession s).engDetail = s.engDetail := rfl
@[simp] theorem clearSession_engWritten (s : State) : (clearSession s).engWritten = s.engWritten := rfl
@[simp] theorem clearSession_resChecksum (s : State) : (clearSession s).resChecksum = s.resChecksum := rfl
@[simp] theorem clearSession_txbuf (s : State) : (clearSession s).txbuf = s.txbuf := rfl
@[simp] theorem clearSession_resPayload (s : State) : (clearSession s).resPayload = s.resPayload := rfl
@[simp] theorem clearSession_resPages (s : State) : (clearSession s).resPages = s.resPages := rfl
@[simp] theorem clearSession_bal (s : State) : (clearSession s).bal = s.bal := rfl
@[simp] theorem clearSession_fault (s : State) : (clearSession s).fault = s.fault := rfl
@[simp] theorem clearSession_reply (s : State) : (clearSession s).reply = s.reply := rfl
@[simp] theorem clearSession_series (s : State) : (clearSession s).series = s.series := rfl
@[simp] theorem clearSession_fsm (s : State) : (clearSession s).fsm = s.fsm := rfl
@[simp] theorem clearSession_attempt (s : State) : (clearSession s).attempt = s.attempt := rfl
@[simp] theorem clearSession_rEff (s : State) : (clearSession s).rEff = s.rEff := rfl
@[simp] theorem clearSession_slot (s : State) : (clearSession s).slot = s.slot := rfl
@[simp] theorem clearSession_slotCarry (s : State) : (clearSession s).slotCarry = s.slotCarry := rfl
@[simp] theorem clearSession_lastCause (s : State) : (clearSession s).lastCause = s.lastCause := rfl
@[simp] theorem clearSession_lastDetail (s : State) : (clearSession s).lastDetail = s.lastDetail := rfl
@[simp] theorem clearSession_lastWritten (s : State) : (clearSession s).lastWritten = s.lastWritten := rfl
@[simp] theorem clearSession_xCmd (s : State) : (clearSession s).xCmd = s.xCmd := rfl
@[simp] theorem clearSession_xExtra (s : State) : (clearSession s).xExtra = s.xExtra := rfl
@[simp] theorem clearSession_xRest (s : State) : (clearSession s).xRest = s.xRest := rfl
@[simp] theorem clearSession_xN (s : State) : (clearSession s).xN = s.xN := rfl
@[simp] theorem clearSession_rxslot (s : State) : (clearSession s).rxslot = s.rxslot := rfl
@[simp] theorem clearSession_rxlen (s : State) : (clearSession s).rxlen = s.rxlen := rfl
@[simp] theorem clearSession_expIdx (s : State) : (clearSession s).expIdx = s.expIdx := rfl
@[simp] theorem clearSession_running (s : State) : (clearSession s).running = s.running := rfl
@[simp] theorem clearSession_inbox (s : State) : (clearSession s).inbox = s.inbox := rfl
@[simp] theorem clearSession_answers (s : State) : (clearSession s).answers = s.answers := rfl
@[simp] theorem clearSession_resetLine (s : State) : (clearSession s).resetLine = s.resetLine := rfl
@[simp] theorem clearSession_history (s : State) : (clearSession s).history = s.history := rfl
@[simp] theorem clearSession_draws (s : State) : (clearSession s).draws = s.draws := rfl

/-! ### `hold` -/

@[simp] theorem hold_params (i : Instr) (s : State) : (hold i s).params = s.params := rfl
@[simp] theorem hold_link (i : Instr) (s : State) : (hold i s).link = s.link := rfl
@[simp] theorem hold_addrVariant (i : Instr) (s : State) : (hold i s).addrVariant = s.addrVariant := rfl
@[simp] theorem hold_retries (i : Instr) (s : State) : (hold i s).retries = s.retries := rfl
@[simp] theorem hold_sessionValid (i : Instr) (s : State) : (hold i s).sessionValid = s.sessionValid := rfl
@[simp] theorem hold_sessionStatus (i : Instr) (s : State) : (hold i s).sessionStatus = s.sessionStatus := rfl
@[simp] theorem hold_engBusy (i : Instr) (s : State) : (hold i s).engBusy = s.engBusy := rfl
@[simp] theorem hold_engErr (i : Instr) (s : State) : (hold i s).engErr = s.engErr := rfl
@[simp] theorem hold_engErrCmd (i : Instr) (s : State) : (hold i s).engErrCmd = s.engErrCmd := rfl
@[simp] theorem hold_engCause (i : Instr) (s : State) : (hold i s).engCause = s.engCause := rfl
@[simp] theorem hold_engDetail (i : Instr) (s : State) : (hold i s).engDetail = s.engDetail := rfl
@[simp] theorem hold_engWritten (i : Instr) (s : State) : (hold i s).engWritten = s.engWritten := rfl
@[simp] theorem hold_resChecksum (i : Instr) (s : State) : (hold i s).resChecksum = s.resChecksum := rfl
@[simp] theorem hold_txbuf (i : Instr) (s : State) : (hold i s).txbuf = s.txbuf := rfl
@[simp] theorem hold_resPayload (i : Instr) (s : State) : (hold i s).resPayload = s.resPayload := rfl
@[simp] theorem hold_resPages (i : Instr) (s : State) : (hold i s).resPages = s.resPages := rfl
@[simp] theorem hold_bal (i : Instr) (s : State) : (hold i s).bal = s.bal := rfl
@[simp] theorem hold_fault (i : Instr) (s : State) : (hold i s).fault = s.fault := rfl
@[simp] theorem hold_reply (i : Instr) (s : State) : (hold i s).reply = s.reply := rfl
@[simp] theorem hold_series (i : Instr) (s : State) : (hold i s).series = s.series := rfl
@[simp] theorem hold_fsm (i : Instr) (s : State) : (hold i s).fsm = s.fsm := rfl
@[simp] theorem hold_attempt (i : Instr) (s : State) : (hold i s).attempt = s.attempt := rfl
@[simp] theorem hold_rEff (i : Instr) (s : State) : (hold i s).rEff = s.rEff := rfl
@[simp] theorem hold_slot (i : Instr) (s : State) : (hold i s).slot = s.slot := rfl
@[simp] theorem hold_slotCarry (i : Instr) (s : State) : (hold i s).slotCarry = s.slotCarry := rfl
@[simp] theorem hold_lastCause (i : Instr) (s : State) : (hold i s).lastCause = s.lastCause := rfl
@[simp] theorem hold_lastDetail (i : Instr) (s : State) : (hold i s).lastDetail = s.lastDetail := rfl
@[simp] theorem hold_lastWritten (i : Instr) (s : State) : (hold i s).lastWritten = s.lastWritten := rfl
@[simp] theorem hold_xCmd (i : Instr) (s : State) : (hold i s).xCmd = s.xCmd := rfl
@[simp] theorem hold_xExtra (i : Instr) (s : State) : (hold i s).xExtra = s.xExtra := rfl
@[simp] theorem hold_xRest (i : Instr) (s : State) : (hold i s).xRest = s.xRest := rfl
@[simp] theorem hold_xN (i : Instr) (s : State) : (hold i s).xN = s.xN := rfl
@[simp] theorem hold_rxslot (i : Instr) (s : State) : (hold i s).rxslot = s.rxslot := rfl
@[simp] theorem hold_rxlen (i : Instr) (s : State) : (hold i s).rxlen = s.rxlen := rfl
@[simp] theorem hold_expIdx (i : Instr) (s : State) : (hold i s).expIdx = s.expIdx := rfl
@[simp] theorem hold_running (i : Instr) (s : State) : (hold i s).running = s.running := rfl
@[simp] theorem hold_inbox (i : Instr) (s : State) : (hold i s).inbox = s.inbox ++ [encodeWith s.params.cmd i] := rfl
@[simp] theorem hold_answers (i : Instr) (s : State) : (hold i s).answers = s.answers := rfl
@[simp] theorem hold_resetLine (i : Instr) (s : State) : (hold i s).resetLine = s.resetLine := rfl
@[simp] theorem hold_history (i : Instr) (s : State) : (hold i s).history = s.history := rfl
@[simp] theorem hold_draws (i : Instr) (s : State) : (hold i s).draws = s.draws := rfl

/-! ### `startExchange` -/

@[simp] theorem startExchange_params (op : Running) (c : Byte) (x : List Byte) (n r : Byte) (s : State) : (startExchange op c x n r s).params = s.params := rfl
@[simp] theorem startExchange_link (op : Running) (c : Byte) (x : List Byte) (n r : Byte) (s : State) : (startExchange op c x n r s).link = s.link := rfl
@[simp] theorem startExchange_addrVariant (op : Running) (c : Byte) (x : List Byte) (n r : Byte) (s : State) : (startExchange op c x n r s).addrVariant = s.addrVariant := rfl
@[simp] theorem startExchange_retries (op : Running) (c : Byte) (x : List Byte) (n r : Byte) (s : State) : (startExchange op c x n r s).retries = s.retries := rfl
@[simp] theorem startExchange_sessionValid (op : Running) (c : Byte) (x : List Byte) (n r : Byte) (s : State) : (startExchange op c x n r s).sessionValid = s.sessionValid := rfl
@[simp] theorem startExchange_sessionStatus (op : Running) (c : Byte) (x : List Byte) (n r : Byte) (s : State) : (startExchange op c x n r s).sessionStatus = s.sessionStatus := rfl
@[simp] theorem startExchange_engBusy (op : Running) (c : Byte) (x : List Byte) (n r : Byte) (s : State) : (startExchange op c x n r s).engBusy = s.engBusy := rfl
@[simp] theorem startExchange_engErr (op : Running) (c : Byte) (x : List Byte) (n r : Byte) (s : State) : (startExchange op c x n r s).engErr = s.engErr := rfl
@[simp] theorem startExchange_engErrCmd (op : Running) (c : Byte) (x : List Byte) (n r : Byte) (s : State) : (startExchange op c x n r s).engErrCmd = s.engErrCmd := rfl
@[simp] theorem startExchange_engCause (op : Running) (c : Byte) (x : List Byte) (n r : Byte) (s : State) : (startExchange op c x n r s).engCause = s.engCause := rfl
@[simp] theorem startExchange_engDetail (op : Running) (c : Byte) (x : List Byte) (n r : Byte) (s : State) : (startExchange op c x n r s).engDetail = s.engDetail := rfl
@[simp] theorem startExchange_engWritten (op : Running) (c : Byte) (x : List Byte) (n r : Byte) (s : State) : (startExchange op c x n r s).engWritten = s.engWritten := rfl
@[simp] theorem startExchange_resChecksum (op : Running) (c : Byte) (x : List Byte) (n r : Byte) (s : State) : (startExchange op c x n r s).resChecksum = s.resChecksum := rfl
@[simp] theorem startExchange_txbuf (op : Running) (c : Byte) (x : List Byte) (n r : Byte) (s : State) : (startExchange op c x n r s).txbuf = s.txbuf := rfl
@[simp] theorem startExchange_resPayload (op : Running) (c : Byte) (x : List Byte) (n r : Byte) (s : State) : (startExchange op c x n r s).resPayload = s.resPayload := rfl
@[simp] theorem startExchange_resPages (op : Running) (c : Byte) (x : List Byte) (n r : Byte) (s : State) : (startExchange op c x n r s).resPages = s.resPages := rfl
@[simp] theorem startExchange_bal (op : Running) (c : Byte) (x : List Byte) (n r : Byte) (s : State) : (startExchange op c x n r s).bal = s.bal := rfl
@[simp] theorem startExchange_fault (op : Running) (c : Byte) (x : List Byte) (n r : Byte) (s : State) : (startExchange op c x n r s).fault = s.fault := rfl
@[simp] theorem startExchange_reply (op : Running) (c : Byte) (x : List Byte) (n r : Byte) (s : State) : (startExchange op c x n r s).reply = s.reply := rfl
@[simp] theorem startExchange_series (op : Running) (c : Byte) (x : List Byte) (n r : Byte) (s : State) : (startExchange op c x n r s).series = s.series := rfl
@[simp] theorem startExchange_fsm (op : Running) (c : Byte) (x : List Byte) (n r : Byte) (s : State) : (startExchange op c x n r s).fsm = .check := rfl
@[simp] theorem startExchange_attempt (op : Running) (c : Byte) (x : List Byte) (n r : Byte) (s : State) : (startExchange op c x n r s).attempt = s.attempt := rfl
@[simp] theorem startExchange_rEff (op : Running) (c : Byte) (x : List Byte) (n r : Byte) (s : State) : (startExchange op c x n r s).rEff = clampRetries r := rfl
@[simp] theorem startExchange_slot (op : Running) (c : Byte) (x : List Byte) (n r : Byte) (s : State) : (startExchange op c x n r s).slot = s.slot := rfl
@[simp] theorem startExchange_slotCarry (op : Running) (c : Byte) (x : List Byte) (n r : Byte) (s : State) : (startExchange op c x n r s).slotCarry = s.slotCarry := rfl
@[simp] theorem startExchange_lastCause (op : Running) (c : Byte) (x : List Byte) (n r : Byte) (s : State) : (startExchange op c x n r s).lastCause = s.lastCause := rfl
@[simp] theorem startExchange_lastDetail (op : Running) (c : Byte) (x : List Byte) (n r : Byte) (s : State) : (startExchange op c x n r s).lastDetail = s.lastDetail := rfl
@[simp] theorem startExchange_lastWritten (op : Running) (c : Byte) (x : List Byte) (n r : Byte) (s : State) : (startExchange op c x n r s).lastWritten = s.lastWritten := rfl
@[simp] theorem startExchange_xCmd (op : Running) (c : Byte) (x : List Byte) (n r : Byte) (s : State) : (startExchange op c x n r s).xCmd = c := rfl
@[simp] theorem startExchange_xExtra (op : Running) (c : Byte) (x : List Byte) (n r : Byte) (s : State) : (startExchange op c x n r s).xExtra = x.take 8 := rfl
@[simp] theorem startExchange_xRest (op : Running) (c : Byte) (x : List Byte) (n r : Byte) (s : State) : (startExchange op c x n r s).xRest = x.drop 8 := rfl
@[simp] theorem startExchange_xN (op : Running) (c : Byte) (x : List Byte) (n r : Byte) (s : State) : (startExchange op c x n r s).xN = n := rfl
@[simp] theorem startExchange_rxslot (op : Running) (c : Byte) (x : List Byte) (n r : Byte) (s : State) : (startExchange op c x n r s).rxslot = s.rxslot := rfl
@[simp] theorem startExchange_rxlen (op : Running) (c : Byte) (x : List Byte) (n r : Byte) (s : State) : (startExchange op c x n r s).rxlen = s.rxlen := rfl
@[simp] theorem startExchange_expIdx (op : Running) (c : Byte) (x : List Byte) (n r : Byte) (s : State) : (startExchange op c x n r s).expIdx = s.expIdx := rfl
@[simp] theorem startExchange_running (op : Running) (c : Byte) (x : List Byte) (n r : Byte) (s : State) : (startExchange op c x n r s).running = some op := rfl
@[simp] theorem startExchange_inbox (op : Running) (c : Byte) (x : List Byte) (n r : Byte) (s : State) : (startExchange op c x n r s).inbox = s.inbox := rfl
@[simp] theorem startExchange_answers (op : Running) (c : Byte) (x : List Byte) (n r : Byte) (s : State) : (startExchange op c x n r s).answers = s.answers := rfl
@[simp] theorem startExchange_resetLine (op : Running) (c : Byte) (x : List Byte) (n r : Byte) (s : State) : (startExchange op c x n r s).resetLine = s.resetLine := rfl
@[simp] theorem startExchange_history (op : Running) (c : Byte) (x : List Byte) (n r : Byte) (s : State) : (startExchange op c x n r s).history = s.history := rfl
@[simp] theorem startExchange_draws (op : Running) (c : Byte) (x : List Byte) (n r : Byte) (s : State) : (startExchange op c x n r s).draws = s.draws := rfl

/-! ### `failAttempt` -/

@[simp] theorem failAttempt_params (e : Err) (d w : Byte) (s : State) : (failAttempt e d w s).params = s.params := rfl
@[simp] theorem failAttempt_link (e : Err) (d w : Byte) (s : State) : (failAttempt e d w s).link = s.link := rfl
@[simp] theorem failAttempt_addrVariant (e : Err) (d w : Byte) (s : State) : (failAttempt e d w s).addrVariant = s.addrVariant := rfl
@[simp] theorem failAttempt_retries (e : Err) (d w : Byte) (s : State) : (failAttempt e d w s).retries = s.retries := rfl
@[simp] theorem failAttempt_sessionValid (e : Err) (d w : Byte) (s : State) : (failAttempt e d w s).sessionValid = s.sessionValid := rfl
@[simp] theorem failAttempt_sessionStatus (e : Err) (d w : Byte) (s : State) : (failAttempt e d w s).sessionStatus = s.sessionStatus := rfl
@[simp] theorem failAttempt_engBusy (e : Err) (d w : Byte) (s : State) : (failAttempt e d w s).engBusy = s.engBusy := rfl
@[simp] theorem failAttempt_engErr (e : Err) (d w : Byte) (s : State) : (failAttempt e d w s).engErr = s.engErr := rfl
@[simp] theorem failAttempt_engErrCmd (e : Err) (d w : Byte) (s : State) : (failAttempt e d w s).engErrCmd = s.engErrCmd := rfl
@[simp] theorem failAttempt_engCause (e : Err) (d w : Byte) (s : State) : (failAttempt e d w s).engCause = s.engCause := rfl
@[simp] theorem failAttempt_engDetail (e : Err) (d w : Byte) (s : State) : (failAttempt e d w s).engDetail = s.engDetail := rfl
@[simp] theorem failAttempt_engWritten (e : Err) (d w : Byte) (s : State) : (failAttempt e d w s).engWritten = s.engWritten := rfl
@[simp] theorem failAttempt_resChecksum (e : Err) (d w : Byte) (s : State) : (failAttempt e d w s).resChecksum = s.resChecksum := rfl
@[simp] theorem failAttempt_txbuf (e : Err) (d w : Byte) (s : State) : (failAttempt e d w s).txbuf = s.txbuf := rfl
@[simp] theorem failAttempt_resPayload (e : Err) (d w : Byte) (s : State) : (failAttempt e d w s).resPayload = s.resPayload := rfl
@[simp] theorem failAttempt_resPages (e : Err) (d w : Byte) (s : State) : (failAttempt e d w s).resPages = s.resPages := rfl
@[simp] theorem failAttempt_bal (e : Err) (d w : Byte) (s : State) : (failAttempt e d w s).bal = s.bal := rfl
@[simp] theorem failAttempt_fault (e : Err) (d w : Byte) (s : State) : (failAttempt e d w s).fault = s.fault := rfl
@[simp] theorem failAttempt_reply (e : Err) (d w : Byte) (s : State) : (failAttempt e d w s).reply = s.reply := rfl
@[simp] theorem failAttempt_series (e : Err) (d w : Byte) (s : State) : (failAttempt e d w s).series = s.series := rfl
@[simp] theorem failAttempt_fsm (e : Err) (d w : Byte) (s : State) : (failAttempt e d w s).fsm = if s.attempt < s.rEff then .backoff else .finish (some .exchangeFailed) := rfl
@[simp] theorem failAttempt_attempt (e : Err) (d w : Byte) (s : State) : (failAttempt e d w s).attempt = s.attempt := rfl
@[simp] theorem failAttempt_rEff (e : Err) (d w : Byte) (s : State) : (failAttempt e d w s).rEff = s.rEff := rfl
@[simp] theorem failAttempt_slot (e : Err) (d w : Byte) (s : State) : (failAttempt e d w s).slot = s.slot := rfl
@[simp] theorem failAttempt_slotCarry (e : Err) (d w : Byte) (s : State) : (failAttempt e d w s).slotCarry = s.slotCarry := rfl
@[simp] theorem failAttempt_lastCause (e : Err) (d w : Byte) (s : State) : (failAttempt e d w s).lastCause = errCode e := rfl
@[simp] theorem failAttempt_lastDetail (e : Err) (d w : Byte) (s : State) : (failAttempt e d w s).lastDetail = d := rfl
@[simp] theorem failAttempt_lastWritten (e : Err) (d w : Byte) (s : State) : (failAttempt e d w s).lastWritten = w := rfl
@[simp] theorem failAttempt_xCmd (e : Err) (d w : Byte) (s : State) : (failAttempt e d w s).xCmd = s.xCmd := rfl
@[simp] theorem failAttempt_xExtra (e : Err) (d w : Byte) (s : State) : (failAttempt e d w s).xExtra = s.xExtra := rfl
@[simp] theorem failAttempt_xRest (e : Err) (d w : Byte) (s : State) : (failAttempt e d w s).xRest = s.xRest := rfl
@[simp] theorem failAttempt_xN (e : Err) (d w : Byte) (s : State) : (failAttempt e d w s).xN = s.xN := rfl
@[simp] theorem failAttempt_rxslot (e : Err) (d w : Byte) (s : State) : (failAttempt e d w s).rxslot = s.rxslot := rfl
@[simp] theorem failAttempt_rxlen (e : Err) (d w : Byte) (s : State) : (failAttempt e d w s).rxlen = s.rxlen := rfl
@[simp] theorem failAttempt_expIdx (e : Err) (d w : Byte) (s : State) : (failAttempt e d w s).expIdx = s.expIdx := rfl
@[simp] theorem failAttempt_running (e : Err) (d w : Byte) (s : State) : (failAttempt e d w s).running = s.running := rfl
@[simp] theorem failAttempt_inbox (e : Err) (d w : Byte) (s : State) : (failAttempt e d w s).inbox = s.inbox := rfl
@[simp] theorem failAttempt_answers (e : Err) (d w : Byte) (s : State) : (failAttempt e d w s).answers = s.answers := rfl
@[simp] theorem failAttempt_resetLine (e : Err) (d w : Byte) (s : State) : (failAttempt e d w s).resetLine = s.resetLine := rfl
@[simp] theorem failAttempt_history (e : Err) (d w : Byte) (s : State) : (failAttempt e d w s).history = s.history := rfl
@[simp] theorem failAttempt_draws (e : Err) (d w : Byte) (s : State) : (failAttempt e d w s).draws = s.draws := rfl

/-! ### `storeSlot` -/

@[simp] theorem storeSlot_params (bs : List Byte) (s : State) : (storeSlot bs s).params = s.params := rfl
@[simp] theorem storeSlot_link (bs : List Byte) (s : State) : (storeSlot bs s).link = s.link := rfl
@[simp] theorem storeSlot_addrVariant (bs : List Byte) (s : State) : (storeSlot bs s).addrVariant = s.addrVariant := rfl
@[simp] theorem storeSlot_retries (bs : List Byte) (s : State) : (storeSlot bs s).retries = s.retries := rfl
@[simp] theorem storeSlot_sessionValid (bs : List Byte) (s : State) : (storeSlot bs s).sessionValid = s.sessionValid := rfl
@[simp] theorem storeSlot_sessionStatus (bs : List Byte) (s : State) : (storeSlot bs s).sessionStatus = s.sessionStatus := rfl
@[simp] theorem storeSlot_engBusy (bs : List Byte) (s : State) : (storeSlot bs s).engBusy = s.engBusy := rfl
@[simp] theorem storeSlot_engErr (bs : List Byte) (s : State) : (storeSlot bs s).engErr = s.engErr := rfl
@[simp] theorem storeSlot_engErrCmd (bs : List Byte) (s : State) : (storeSlot bs s).engErrCmd = s.engErrCmd := rfl
@[simp] theorem storeSlot_engCause (bs : List Byte) (s : State) : (storeSlot bs s).engCause = s.engCause := rfl
@[simp] theorem storeSlot_engDetail (bs : List Byte) (s : State) : (storeSlot bs s).engDetail = s.engDetail := rfl
@[simp] theorem storeSlot_engWritten (bs : List Byte) (s : State) : (storeSlot bs s).engWritten = s.engWritten := rfl
@[simp] theorem storeSlot_resChecksum (bs : List Byte) (s : State) : (storeSlot bs s).resChecksum = s.resChecksum := rfl
@[simp] theorem storeSlot_txbuf (bs : List Byte) (s : State) : (storeSlot bs s).txbuf = s.txbuf := rfl
@[simp] theorem storeSlot_resPayload (bs : List Byte) (s : State) : (storeSlot bs s).resPayload = s.resPayload := rfl
@[simp] theorem storeSlot_resPages (bs : List Byte) (s : State) : (storeSlot bs s).resPages = s.resPages := rfl
@[simp] theorem storeSlot_bal (bs : List Byte) (s : State) : (storeSlot bs s).bal = s.bal := rfl
@[simp] theorem storeSlot_fault (bs : List Byte) (s : State) : (storeSlot bs s).fault = s.fault := rfl
@[simp] theorem storeSlot_reply (bs : List Byte) (s : State) : (storeSlot bs s).reply = s.reply := rfl
@[simp] theorem storeSlot_series (bs : List Byte) (s : State) : (storeSlot bs s).series = s.series := rfl
@[simp] theorem storeSlot_fsm (bs : List Byte) (s : State) : (storeSlot bs s).fsm = s.fsm := rfl
@[simp] theorem storeSlot_attempt (bs : List Byte) (s : State) : (storeSlot bs s).attempt = s.attempt := rfl
@[simp] theorem storeSlot_rEff (bs : List Byte) (s : State) : (storeSlot bs s).rEff = s.rEff := rfl
@[simp] theorem storeSlot_slot (bs : List Byte) (s : State) : (storeSlot bs s).slot = s.slot := rfl
@[simp] theorem storeSlot_slotCarry (bs : List Byte) (s : State) : (storeSlot bs s).slotCarry = s.slotCarry := rfl
@[simp] theorem storeSlot_lastCause (bs : List Byte) (s : State) : (storeSlot bs s).lastCause = s.lastCause := rfl
@[simp] theorem storeSlot_lastDetail (bs : List Byte) (s : State) : (storeSlot bs s).lastDetail = s.lastDetail := rfl
@[simp] theorem storeSlot_lastWritten (bs : List Byte) (s : State) : (storeSlot bs s).lastWritten = s.lastWritten := rfl
@[simp] theorem storeSlot_xCmd (bs : List Byte) (s : State) : (storeSlot bs s).xCmd = s.xCmd := rfl
@[simp] theorem storeSlot_xExtra (bs : List Byte) (s : State) : (storeSlot bs s).xExtra = s.xExtra := rfl
@[simp] theorem storeSlot_xRest (bs : List Byte) (s : State) : (storeSlot bs s).xRest = s.xRest := rfl
@[simp] theorem storeSlot_xN (bs : List Byte) (s : State) : (storeSlot bs s).xN = s.xN := rfl
@[simp] theorem storeSlot_rxslot (bs : List Byte) (s : State) : (storeSlot bs s).rxslot = Frame.ofBytes (bs ++ s.rxslot.toBytes.drop bs.length) := rfl
@[simp] theorem storeSlot_rxlen (bs : List Byte) (s : State) : (storeSlot bs s).rxlen = BitVec.ofNat 4 bs.length := rfl
@[simp] theorem storeSlot_expIdx (bs : List Byte) (s : State) : (storeSlot bs s).expIdx = s.expIdx := rfl
@[simp] theorem storeSlot_running (bs : List Byte) (s : State) : (storeSlot bs s).running = s.running := rfl
@[simp] theorem storeSlot_inbox (bs : List Byte) (s : State) : (storeSlot bs s).inbox = s.inbox := rfl
@[simp] theorem storeSlot_answers (bs : List Byte) (s : State) : (storeSlot bs s).answers = s.answers := rfl
@[simp] theorem storeSlot_resetLine (bs : List Byte) (s : State) : (storeSlot bs s).resetLine = s.resetLine := rfl
@[simp] theorem storeSlot_history (bs : List Byte) (s : State) : (storeSlot bs s).history = s.history := rfl
@[simp] theorem storeSlot_draws (bs : List Byte) (s : State) : (storeSlot bs s).draws = s.draws := rfl

end Sys2Proof.Machine
end

