-- ==== Sys2Proof/Laws/Exchange.lean ====
section
/-! SUPPORT. What one transition of the running operation can be, and how a run of transitions unfolds. -/

namespace Sys2Proof.Machine

/-- What a call that took its answer did. -/
theorem withAnswer_some {k : Answer → State → State} {s t : State} (h : withAnswer k s = some t) :
    ∃ a rest, s.answers = a :: rest ∧ t = k a { s with answers := rest } := by
  unfold withAnswer at h
  split at h
  · cases h
  · rename_i a rest e
    exact ⟨a, rest, e, (Option.some.inj h).symm⟩

theorem withAnswer_cons {k : Answer → State → State} {s : State} {a : Answer} {rest : List Answer}
    (h : s.answers = a :: rest) : withAnswer k s = some (k a { s with answers := rest }) := by
  simp [withAnswer, h]

theorem withAnswer_nil {k : Answer → State → State} {s : State} (h : s.answers = []) : withAnswer k s = none := by
  simp [withAnswer, h]

/-- Everything one transition can be: the rows of R150 and the link operations' three calls. -/
theorem advance_cases {s t : State} (h : advance s = some t) :
    (s.fsm = .check ∧ t = checkStep s) ∨
    (s.fsm = .backoff ∧ t = backoffStep s) ∨
    (∃ e, s.fsm = .finish e ∧ t = finishStep e s) ∨
    (s.fsm = .collect ∧ slotsTaken s = true ∧ t = endCollection s) ∨
    (∃ a rest, s.answers = a :: rest ∧
      ((s.fsm = .drain ∧ t = drainStep a { s with answers := rest }) ∨
       (s.fsm = .write ∧ t = writeStep a { s with answers := rest }) ∨
       (s.fsm = .collect ∧ slotsTaken s = false ∧ t = slotStep a { s with answers := rest }) ∨
       (s.fsm = .idle ∧ s.running = some .openClosing ∧ t = openClosed a { s with answers := rest }) ∨
       (s.fsm = .idle ∧ s.running = some .openOpening ∧ t = openOpened a { s with answers := rest }) ∨
       (s.fsm = .idle ∧ s.running = some .closing ∧ t = closeClosed a { s with answers := rest }))) := by
  unfold advance at h
  split at h
  case h_1 hf =>
    split at h
    · obtain ⟨a, rest, e, rfl⟩ := withAnswer_some h
      exact .inr (.inr (.inr (.inr ⟨a, rest, e, .inr (.inr (.inr (.inl ⟨hf, ‹_›, rfl⟩)))⟩)))
    · obtain ⟨a, rest, e, rfl⟩ := withAnswer_some h
      exact .inr (.inr (.inr (.inr ⟨a, rest, e, .inr (.inr (.inr (.inr (.inl ⟨hf, ‹_›, rfl⟩))))⟩)))
    · obtain ⟨a, rest, e, rfl⟩ := withAnswer_some h
      exact .inr (.inr (.inr (.inr ⟨a, rest, e, .inr (.inr (.inr (.inr (.inr ⟨hf, ‹_›, rfl⟩))))⟩)))
    · cases h
  case h_2 hf => exact .inl ⟨hf, (Option.some.inj h).symm⟩
  case h_3 hf =>
    obtain ⟨a, rest, e, rfl⟩ := withAnswer_some h
    exact .inr (.inr (.inr (.inr ⟨a, rest, e, .inl ⟨hf, rfl⟩⟩)))
  case h_4 hf =>
    obtain ⟨a, rest, e, rfl⟩ := withAnswer_some h
    exact .inr (.inr (.inr (.inr ⟨a, rest, e, .inr (.inl ⟨hf, rfl⟩)⟩)))
  case h_5 hf =>
    split at h
    · rename_i hs
      exact .inr (.inr (.inr (.inl ⟨hf, hs, (Option.some.inj h).symm⟩)))
    · rename_i hs
      obtain ⟨a, rest, e, rfl⟩ := withAnswer_some h
      exact .inr (.inr (.inr (.inr ⟨a, rest, e, .inr (.inr (.inl ⟨hf, by simpa using hs, rfl⟩))⟩)))
  case h_6 hf => exact .inr (.inl ⟨hf, (Option.some.inj h).symm⟩)
  case h_7 e hf => exact .inr (.inr (.inl ⟨e, hf, (Option.some.inj h).symm⟩))

/-! ### Slots -/

/-- A slot waits to be read exactly where `SLOT <= X.N` (R150). -/
theorem slotsTaken_eq_false {s : State} : slotsTaken s = false ↔ slotNumber s ≤ s.xN.toNat := by simp [slotsTaken]

theorem slotsTaken_eq_true {s : State} : slotsTaken s = true ↔ s.xN.toNat < slotNumber s := by simp [slotsTaken]

/-- While a slot waits, `SLOT` has not passed 255. -/
theorem slotCarry_of_waiting {s : State} (h : slotsTaken s = false) : s.slotCarry = false := by
  rw [slotsTaken_eq_false] at h
  unfold slotNumber at h
  cases hc : s.slotCarry
  · rfl
  · have := s.xN.isLt
    simp [hc] at h
    omega

/-- Taking a slot counts one more, past 255 too. -/
theorem slotNumber_takeSlot {s : State} (h : s.slotCarry = false) : slotNumber (takeSlot s) = slotNumber s + 1 := by
  have := s.slot.isLt
  by_cases hs : s.slot = 0xFF
  · simp [slotNumber, takeSlot, h, hs]
  · have : s.slot.toNat ≠ 255 := fun e => hs (BitVec.eq_of_toNat_eq e)
    simp only [slotNumber, takeSlot, h, hs, BitVec.toNat_add]
    simp
    omega

/-- An exchange latches its extra bytes whole: eight in `X.EXTRA`, the rest beside it (R150). -/
theorem startExchange_latches (op : Running) (c : Byte) (x : List Byte) (n r : Byte) (s : State) :
    (startExchange op c x n r s).xExtra ++ (startExchange op c x n r s).xRest = x := List.take_append_drop 8 x

/-! ### Where an attempt goes -/

theorem endCollection_empty {s : State} (h : s.reply = []) :
    endCollection s = failAttempt .noValidFrames s.lastDetail 0 s := by simp [endCollection, h]

theorem endCollection_some {s : State} (h : s.reply ≠ []) : endCollection s = { s with fsm := .finish none } := by
  simp [endCollection, h]

theorem endCollection_answers (s : State) : (endCollection s).answers = s.answers := by
  unfold endCollection; split <;> rfl

theorem failAttempt_weight (e : Err) (d w : Byte) (s : State) : phaseWeight (failAttempt e d w s).fsm ≤ 2 := by
  rw [failAttempt_fsm]; split <;> simp [phaseWeight]

theorem endCollection_weight (s : State) : phaseWeight (endCollection s).fsm ≤ 2 := by
  unfold endCollection
  split
  · exact failAttempt_weight _ _ _ _
  · simp [phaseWeight]

theorem drainStep_answers (a : Answer) (s : State) : (drainStep a s).answers = s.answers := by
  unfold drainStep emitLog; cases a.err <;> rfl

theorem drainStep_fsm (a : Answer) (s : State) : (drainStep a s).fsm = .write := rfl

theorem writeStep_answers (a : Answer) (s : State) : (writeStep a s).answers = s.answers := by
  unfold writeStep; repeat' split
  all_goals rfl

theorem writeStep_weight (a : Answer) (s : State) : phaseWeight (writeStep a s).fsm ≤ 3 := by
  unfold writeStep
  repeat' split
  · exact le_trans (failAttempt_weight _ _ _ _) (by decide)
  · exact le_trans (failAttempt_weight _ _ _ _) (by decide)
  · simp [phaseWeight]

theorem decodeSlot_answers (bs : List Byte) (s : State) : (decodeSlot bs s).answers = s.answers := by
  unfold decodeSlot; split <;> rfl

theorem decodeSlot_fsm (bs : List Byte) (s : State) : (decodeSlot bs s).fsm = s.fsm := by
  unfold decodeSlot; split <;> rfl

theorem slotStep_answers (a : Answer) (s : State) : (slotStep a s).answers = s.answers := by
  unfold slotStep
  dsimp only
  repeat' split
  all_goals simp [endCollection_answers, decodeSlot_answers, emitLog]

theorem slotStep_weight (a : Answer) (s : State) (h : s.fsm = .collect) : phaseWeight (slotStep a s).fsm ≤ 3 := by
  unfold slotStep
  dsimp only
  repeat' split
  · exact le_trans (endCollection_weight _) (by decide)
  · exact le_trans (endCollection_weight _) (by decide)
  · exact le_trans (endCollection_weight _) (by decide)
  · rw [decodeSlot_fsm]; simp [h, phaseWeight]

theorem storeSeries_answers (w count : Nat) (s : State) : (storeSeries w count s).answers = s.answers := rfl

theorem latchStatus_answers (s : State) : (latchStatus s).answers = s.answers := by
  unfold latchStatus; split <;> rfl

theorem afterExchange_answers (s : State) : (afterExchange s).answers = s.answers := by
  unfold afterExchange
  split
  · exact latchStatus_answers s
  all_goals rfl

theorem clearFailedExchange_answers (s : State) : (clearFailedExchange s).answers = s.answers := by
  unfold clearFailedExchange; split <;> rfl

theorem finishStep_answers (e : Option Err) (s : State) : (finishStep e s).answers = s.answers := by
  cases e <;> simp [finishStep, afterExchange_answers, clearFailedExchange_answers]

theorem finishStep_fsm (e : Option Err) (s : State) : (finishStep e s).fsm = .idle := by
  cases e <;> simp [finishStep]

theorem openClosed_answers (a : Answer) (s : State) : (openClosed a s).answers = s.answers := rfl

theorem openClosed_fsm (a : Answer) (s : State) : (openClosed a s).fsm = s.fsm := rfl

theorem openOpened_answers (a : Answer) (s : State) : (openOpened a s).answers = s.answers := by
  unfold openOpened; dsimp only; split <;> simp

theorem openOpened_fsm (a : Answer) (s : State) : (openOpened a s).fsm = .idle := by
  unfold openOpened; dsimp only; split <;> simp

theorem closeClosed_answers (a : Answer) (s : State) : (closeClosed a s).answers = s.answers := by
  unfold closeClosed; dsimp only; split <;> simp

theorem closeClosed_fsm (a : Answer) (s : State) : (closeClosed a s).fsm = .idle := by
  unfold closeClosed; dsimp only; split <;> simp

theorem checkStep_answers (s : State) : (checkStep s).answers = s.answers := by
  unfold checkStep; repeat' split
  all_goals rfl

theorem checkStep_weight (s : State) : phaseWeight (checkStep s).fsm ≤ 1 := by
  unfold checkStep; repeat' split
  all_goals simp [phaseWeight]

/-! ### Runs of transitions -/

/-- Every transition uses up some of the budget. -/
theorem budget_advance {s t : State} (h : advance s = some t) : budget t < budget s := by
  rcases advance_cases h with ⟨hf, rfl⟩ | ⟨hf, rfl⟩ | ⟨e, hf, rfl⟩ | ⟨hf, -, rfl⟩ | ⟨a, rest, ha, hc⟩
  · have := checkStep_weight s
    simp only [budget, checkStep_answers, hf, phaseWeight] at *; omega
  · simp [budget, backoffStep, hf, phaseWeight]
  · simp [budget, finishStep_answers, finishStep_fsm, hf, phaseWeight]
  · have := endCollection_weight s
    simp only [budget, endCollection_answers, hf, phaseWeight] at *; omega
  · rcases hc with ⟨hf, rfl⟩ | ⟨hf, rfl⟩ | ⟨hf, -, rfl⟩ | ⟨hf, -, rfl⟩ | ⟨hf, -, rfl⟩ | ⟨hf, -, rfl⟩
    · simp [budget, drainStep_answers, drainStep_fsm, hf, ha, phaseWeight]
    · have := writeStep_weight a { s with answers := rest }
      simp only [budget, writeStep_answers, ha, List.length_cons]; omega
    · have := slotStep_weight a { s with answers := rest } hf
      simp only [budget, slotStep_answers, ha, List.length_cons]; omega
    · simp [budget, openClosed_answers, openClosed_fsm, hf, ha, phaseWeight]
    · simp [budget, openOpened_answers, openOpened_fsm, hf, ha, phaseWeight]
    · simp [budget, closeClosed_answers, closeClosed_fsm, hf, ha, phaseWeight]

theorem runFor_rest (n : Nat) {s : State} (h : advance s = none) : runFor n s = s := by
  cases n <;> simp [runFor, h]

/-- More transitions than the budget allows change nothing. -/
theorem runFor_enough : ∀ (n m : Nat) (s : State), budget s ≤ n → budget s ≤ m → runFor n s = runFor m s := by
  intro n
  induction n with
  | zero =>
    intro m s hn _
    cases hs : advance s with
    | none => rw [runFor_rest _ hs, runFor_rest _ hs]
    | some t => have := budget_advance hs; omega
  | succ n ih =>
    intro m s hn hm
    cases hs : advance s with
    | none => rw [runFor_rest _ hs, runFor_rest _ hs]
    | some t =>
      have hb := budget_advance hs
      cases m with
      | zero => omega
      | succ m => simp only [runFor, hs]; exact ih m t (by omega) (by omega)

/-- A run that can make a transition goes on from the state after it. -/
theorem settle_advance {s t : State} (h : advance s = some t) : settle s = settle t := by
  have hb := budget_advance h
  unfold settle
  obtain ⟨k, hk⟩ : ∃ k, budget s = k + 1 := ⟨budget s - 1, by omega⟩
  rw [hk]
  simp only [runFor, h]
  exact runFor_enough k (budget t) t (by omega) (le_refl _)

/-- A block with no transition to make stays. -/
theorem settle_rest {s : State} (h : advance s = none) : settle s = s := runFor_rest _ h

/-- What every transition keeps, a run keeps. -/
theorem settle_induct {P : State → Prop} (hstep : ∀ s t, P s → advance s = some t → P t) {s : State} (h : P s) :
    P (settle s) := by
  suffices ∀ n s, P s → P (runFor n s) from this _ _ h
  intro n
  induction n with
  | zero => exact fun s h => h
  | succ n ih =>
    intro s h
    cases hs : advance s with
    | none => rw [runFor_rest _ hs]; exact h
    | some t => simp only [runFor, hs]; exact ih t (hstep s t h hs)

/-- What every transition keeps, as a relation to where the run began, the run keeps. -/
theorem settle_rel {R : State → State → Prop} (hrefl : ∀ s, R s s) (htrans : ∀ a b c, R a b → R b c → R a c)
    (hstep : ∀ s t, advance s = some t → R s t) (s : State) : R s (settle s) :=
  settle_induct (P := fun t => R s t) (fun a b h hab => htrans _ _ _ h (hstep a b hab)) (hrefl s)

/-! ### The transitions by state -/

theorem advance_check {s : State} (h : s.fsm = .check) : advance s = some (checkStep s) := by simp [advance, h]

theorem advance_drain {s : State} {a : Answer} {rest : List Answer} (h : s.fsm = .drain) (ha : s.answers = a :: rest) :
    advance s = some (drainStep a { s with answers := rest }) := by simp [advance, h, withAnswer_cons ha]

theorem advance_write {s : State} {a : Answer} {rest : List Answer} (h : s.fsm = .write) (ha : s.answers = a :: rest) :
    advance s = some (writeStep a { s with answers := rest }) := by simp [advance, h, withAnswer_cons ha]

theorem advance_slot {s : State} {a : Answer} {rest : List Answer} (h : s.fsm = .collect)
    (hs : slotsTaken s = false) (ha : s.answers = a :: rest) :
    advance s = some (slotStep a { s with answers := rest }) := by
  simp [advance, h, hs, withAnswer_cons ha]

theorem advance_collected {s : State} (h : s.fsm = .collect) (hs : slotsTaken s = true) :
    advance s = some (endCollection s) := by simp [advance, h, hs]

theorem advance_backoff {s : State} (h : s.fsm = .backoff) : advance s = some (backoffStep s) := by simp [advance, h]

theorem advance_finish {s : State} {e : Option Err} (h : s.fsm = .finish e) : advance s = some (finishStep e s) := by
  simp [advance, h]

theorem advance_idle {s : State} (h : s.fsm = .idle) (hr : s.running = none) : advance s = none := by
  simp [advance, h, hr]

/-- A call that has not returned leaves the block where it is (R301). -/
theorem advance_waiting {s : State} (h : s.answers = []) (hf : s.fsm = .drain ∨ s.fsm = .write) : advance s = none := by
  rcases hf with hf | hf <;> simp [advance, hf, withAnswer_nil h]

/-- An accepted operation runs its body with `ENG.BUSY` set. -/
theorem accept_idle {i : Instr} {body : State → State} {s : State} (h : s.engBusy = false) :
    accept i body s = .next (body { s with engBusy := true }) := by simp [accept, h]

/-- An operation issued while another runs is held (R295). -/
theorem accept_busy {i : Instr} {body : State → State} {s : State} (h : s.engBusy = true) :
    accept i body s = .next (hold i s) := by simp [accept, h]

end Sys2Proof.Machine
end

