-- ==== Sys2Proof/Laws/Ops.lean ====
section
/-! SUPPORT. What each shared operation leaves: an end, an error, a failed attempt, a held word, a reset, a host read. -/

namespace Sys2Proof.Machine

/-- A successful end writes `ENG.*` and leaves the block idle (R261). -/
theorem complete_eq (s : State) :
    complete s = { s with
      engErr := 0, engErrCmd := 0, engCause := 0, engDetail := 0, engWritten := 0,
      engBusy := false, fsm := .idle, running := none } := rfl

/-- An error other than `ExchangeFailed` writes its code and zeros, and leaves the block idle (R262). -/
theorem raise_eq {e : Err} (h : e ≠ .exchangeFailed) (s : State) :
    raise e s = { s with
      engErr := errCode e, engErrCmd := 0, engCause := 0, engDetail := 0, engWritten := 0,
      engBusy := false, fsm := .idle, running := none } := by
  simp [raise, engFailure, h]

/-- `ExchangeFailed` writes the failure record of the last attempt (R159, R262). -/
theorem raise_exchangeFailed (s : State) :
    raise .exchangeFailed s = { s with
      engErr := 0x05, engErrCmd := s.xCmd, engCause := s.lastCause,
      engDetail := if s.lastCause = 0x09 then s.lastDetail else 0,
      engWritten := if s.lastCause = 0x08 then s.lastWritten else 0,
      engBusy := false, fsm := .idle, running := none } := rfl

/-- A failed attempt keeps its record and goes on, or finishes after the last attempt (R158). -/
theorem failAttempt_eq (cause : Err) (detail written : Byte) (s : State) :
    failAttempt cause detail written s = { s with
      lastCause := errCode cause, lastDetail := detail, lastWritten := written,
      fsm := if s.attempt < s.rEff then .backoff else .finish (some .exchangeFailed) } := rfl

/-- A host read of a fault name answers the entry's and changes nothing, or draws a free value (R36, R45, R76). -/
theorem hostReadName_cases (k : Nat) (s : State) :
    (∃ v, faultNameValue? k s = some v ∧ hostReadName k s = (v, s)) ∨
    (hostReadName k s = (Config.unspecifiedName s.draws, { s with draws := s.draws + 1 })) := by
  unfold hostReadName
  split
  · rename_i v h
    split at h
    · cases h
    · exact .inl ⟨v, h, rfl⟩
  · exact .inr rfl

/-- A host read answers the register's value and changes nothing, or draws a free value (R37, R38, R76). -/
theorem hostRead_cases (r : HostReg) (s : State) :
    (∃ v, regValue? r s = some v ∧ hostRead r s = (v, s)) ∨
    (hostRead r s = (Config.unspecifiedRead s.draws, { s with draws := s.draws + 1 })) := by
  unfold hostRead
  dsimp only
  split
  · rename_i v h
    split at h
    · cases h
    · exact .inl ⟨v, h, rfl⟩
  · exact .inr rfl

end Sys2Proof.Machine
end

