-- ==== Sys2Proof/Laws/PerInstr.lean ====
section
/-! SUPPORT. Per instruction: the bytes of an instruction are as many as spec/30_encoding.md R96 and R80 say. -/

namespace Sys2Proof

/-- The word lengths of R96, and the 13 bytes of a frame (R80). -/
def wordLength : Instr → Nat
  | .openLink => 1
  | .closeLink => 1
  | .cfgWrite _ _ => 3
  | .checksum bytes => 2 + bytes.length
  | .encode _ extra => 3 + extra.length
  | .decode _ frame => 3 + frame.length
  | .send _ _ _ extra => 5 + extra.length
  | .reassemble _ _ => 3
  | .planPages _ => 2
  | .statusQuery => 1
  | .queryCells => 1
  | .queryTemps => 1
  | .query _ => 2
  | .set _ extra => 3 + extra.length
  | .decodeBalancing _ => 9
  | .decodeFaults _ => 9
  | .frameStatus _ _ _ _ => 13
  | .frameSoc _ _ _ _ => 13
  | .frameCellRange _ _ _ _ => 13
  | .frameTempRange _ _ _ _ => 13
  | .frameMosfet _ _ _ _ => 13
  | .frameCellVoltages _ _ _ _ => 13
  | .frameTemperatures _ _ _ _ => 13
  | .frameBalancing _ _ _ _ => 13
  | .frameFaults _ _ _ _ => 13
  | .frameSetChargeMos _ _ _ _ => 13
  | .frameSetDischargeMos _ _ _ _ => 13
  | .frameSetSoc _ _ _ _ => 13
  | .frameRestart _ _ _ _ => 13

/-- The bytes of `i` are as many as its row says, under every command map. -/
def Laws.WordLength.Statement (i : Instr) : Prop := ∀ m : CmdMap, (encodeWith m i).length = wordLength i

theorem Laws.WordLength.openLink : Laws.WordLength.Statement (.openLink) := fun _ => rfl

theorem Laws.WordLength.closeLink : Laws.WordLength.Statement (.closeLink) := fun _ => rfl

theorem Laws.WordLength.cfgWrite (v r : Byte) : Laws.WordLength.Statement (.cfgWrite v r) := fun _ => rfl

theorem Laws.WordLength.checksum (bytes : List Byte) : Laws.WordLength.Statement (.checksum bytes) := by intro m; simp [encodeWith, lenBytes, wordLength]; omega

theorem Laws.WordLength.encode (c : Byte) (x : List Byte) : Laws.WordLength.Statement (.encode c x) := by intro m; simp [encodeWith, lenBytes, wordLength]; omega

theorem Laws.WordLength.decode (c : Byte) (x : List Byte) : Laws.WordLength.Statement (.decode c x) := by intro m; simp [encodeWith, lenBytes, wordLength]; omega

theorem Laws.WordLength.send (c n r : Byte) (x : List Byte) : Laws.WordLength.Statement (.send c n r x) := by intro m; simp [encodeWith, lenBytes, wordLength]; omega

theorem Laws.WordLength.reassemble (w c : Byte) : Laws.WordLength.Statement (.reassemble w c) := fun _ => rfl

theorem Laws.WordLength.planPages (k : Byte) : Laws.WordLength.Statement (.planPages k) := fun _ => rfl

theorem Laws.WordLength.statusQuery : Laws.WordLength.Statement (.statusQuery) := fun _ => rfl

theorem Laws.WordLength.queryCells : Laws.WordLength.Statement (.queryCells) := fun _ => rfl

theorem Laws.WordLength.queryTemps : Laws.WordLength.Statement (.queryTemps) := fun _ => rfl

theorem Laws.WordLength.query (c : Byte) : Laws.WordLength.Statement (.query c) := fun _ => rfl

theorem Laws.WordLength.set (c : Byte) (x : List Byte) : Laws.WordLength.Statement (.set c x) := by intro m; simp [encodeWith, lenBytes, wordLength]; omega

theorem Laws.WordLength.decodeBalancing (p : Payload) : Laws.WordLength.Statement (.decodeBalancing p) := fun _ => rfl

theorem Laws.WordLength.decodeFaults (p : Payload) : Laws.WordLength.Statement (.decodeFaults p) := fun _ => rfl

theorem Laws.WordLength.frameStatus (s a : Byte) (p : Payload) (k : Byte) :
    Laws.WordLength.Statement (.frameStatus s a p k) := fun _ => rfl

theorem Laws.WordLength.frameSoc (s a : Byte) (p : Payload) (k : Byte) :
    Laws.WordLength.Statement (.frameSoc s a p k) := fun _ => rfl

theorem Laws.WordLength.frameCellRange (s a : Byte) (p : Payload) (k : Byte) :
    Laws.WordLength.Statement (.frameCellRange s a p k) := fun _ => rfl

theorem Laws.WordLength.frameTempRange (s a : Byte) (p : Payload) (k : Byte) :
    Laws.WordLength.Statement (.frameTempRange s a p k) := fun _ => rfl

theorem Laws.WordLength.frameMosfet (s a : Byte) (p : Payload) (k : Byte) :
    Laws.WordLength.Statement (.frameMosfet s a p k) := fun _ => rfl

theorem Laws.WordLength.frameCellVoltages (s a : Byte) (p : Payload) (k : Byte) :
    Laws.WordLength.Statement (.frameCellVoltages s a p k) := fun _ => rfl

theorem Laws.WordLength.frameTemperatures (s a : Byte) (p : Payload) (k : Byte) :
    Laws.WordLength.Statement (.frameTemperatures s a p k) := fun _ => rfl

theorem Laws.WordLength.frameBalancing (s a : Byte) (p : Payload) (k : Byte) :
    Laws.WordLength.Statement (.frameBalancing s a p k) := fun _ => rfl

theorem Laws.WordLength.frameFaults (s a : Byte) (p : Payload) (k : Byte) :
    Laws.WordLength.Statement (.frameFaults s a p k) := fun _ => rfl

theorem Laws.WordLength.frameSetChargeMos (s a : Byte) (p : Payload) (k : Byte) :
    Laws.WordLength.Statement (.frameSetChargeMos s a p k) := fun _ => rfl

theorem Laws.WordLength.frameSetDischargeMos (s a : Byte) (p : Payload) (k : Byte) :
    Laws.WordLength.Statement (.frameSetDischargeMos s a p k) := fun _ => rfl

theorem Laws.WordLength.frameSetSoc (s a : Byte) (p : Payload) (k : Byte) :
    Laws.WordLength.Statement (.frameSetSoc s a p k) := fun _ => rfl

theorem Laws.WordLength.frameRestart (s a : Byte) (p : Payload) (k : Byte) :
    Laws.WordLength.Statement (.frameRestart s a p k) := fun _ => rfl

end Sys2Proof
end

