-- ==== Sys2Proof/Laws/Reassembler.lean ====
section
/-! SUPPORT. The walk of the reassembler, one page at a time, and the bounds it keeps. -/

namespace Sys2Proof.Machine

@[simp] theorem walkPages_nil (w count : Nat) (r : Reassembly) : walkPages w count [] r = r := rfl

/-- With the count reached no page is looked at (R184). -/
theorem walkPages_full {w count : Nat} {r : Reassembly} (h : r.series.length = count) (ps : List Payload) :
    walkPages w count ps r = r := by
  cases ps <;> simp [walkPages, h]

theorem walkPages_cons {w count : Nat} {r : Reassembly} (h : r.series.length ≠ count) (p : Payload) (ps : List Payload) :
    walkPages w count (p :: ps) r = walkPages w count ps (takePage w count p r) := by
  simp [walkPages, h]

@[simp] theorem takePage_series (w count : Nat) (p : Payload) (r : Reassembly) :
    (takePage w count p r).series = r.series ++ (pageItems p w).take (count - r.series.length) := rfl

@[simp] theorem takePage_expIdx (w count : Nat) (p : Payload) (r : Reassembly) :
    (takePage w count p r).expIdx = r.expIdx + 1 := rfl

@[simp] theorem pageItems_length (p : Payload) (w : Nat) : (pageItems p w).length = itemsPerPage w := by
  simp [pageItems]

/-- A page never takes the series past the count (R181). -/
theorem takePage_length {w count : Nat} {p : Payload} {r : Reassembly} (h : r.series.length ≤ count) :
    (takePage w count p r).series.length ≤ count := by
  simp; omega

/-- What every page that is looked at keeps, a walk keeps. -/
theorem walkPages_induct {w count : Nat} {P : Reassembly → Prop} (hstep : ∀ p r, P r → P (takePage w count p r)) :
    ∀ (ps : List Payload) (r : Reassembly), P r → P (walkPages w count ps r) := by
  intro ps
  induction ps with
  | nil => exact fun r h => h
  | cons p ps ih =>
    intro r h
    unfold walkPages
    split
    · exact h
    · exact ih _ (hstep p r h)

/-- A storage of the series writes SERIES, EXP_IDX and the log alone (R180). -/
theorem storeSeries_eq (w count : Nat) (s : State) :
    storeSeries w count s =
      { s with
        series := (reassemble s.reply w count).series
        expIdx := (reassemble s.reply w count).expIdx
        history := s.history ++ (reassemble s.reply w count).logs.map Event.log } := rfl

end Sys2Proof.Machine
end

