-- ==== Sys2Proof/Machine/Assembler.lean ====
section
/-! DEFINITION. The assembler lines of spec/30_encoding.md R99 and R100: a mnemonic and its operands by name, in order. A
bracketed byte sequence carries its own length, the `LEN` field; and how a line is written (log entry 17). -/

namespace Sys2Proof

/-- The value of an operand: one byte, or a bracketed byte sequence (R99). -/
inductive AsmValue where
  | byte (b : Byte)
  | bytes (bs : List Byte)
deriving DecidableEq, Repr

/-- One assembler line (R99). -/
structure AsmLine where
  mnemonic : String
  operands : List (String × AsmValue)
deriving DecidableEq, Repr

/-- The line of an operation, with the operand names that the spec's examples use; a wire frame has none. -/
def asmLine? : Instr → Option AsmLine
  | .openLink => some ⟨"OPEN", []⟩
  | .closeLink => some ⟨"CLOSE", []⟩
  | .cfgWrite variant retries => some ⟨"CFG_WRITE", [("variant", .byte variant), ("retries", .byte retries)]⟩
  | .checksum bytes => some ⟨"CHECKSUM", [("bytes", .bytes bytes)]⟩
  | .encode cmd extra => some ⟨"ENCODE", [("cmd", .byte cmd), ("extra", .bytes extra)]⟩
  | .decode expCmd frame => some ⟨"DECODE", [("expcmd", .byte expCmd), ("frame", .bytes frame)]⟩
  | .send cmd n r extra => some ⟨"SEND", [("cmd", .byte cmd), ("n", .byte n), ("r", .byte r), ("extra", .bytes extra)]⟩
  | .reassemble w count => some ⟨"REASSEMBLE", [("w", .byte w), ("count", .byte count)]⟩
  | .planPages kind => some ⟨"PLAN_PAGES", [("kind", .byte kind)]⟩
  | .statusQuery => some ⟨"STATUS_QUERY", []⟩
  | .queryCells => some ⟨"QUERY_CELLS", []⟩
  | .queryTemps => some ⟨"QUERY_TEMPS", []⟩
  | .query cmd => some ⟨"QUERY", [("cmd", .byte cmd)]⟩
  | .set cmd extra => some ⟨"SET", [("cmd", .byte cmd), ("extra", .bytes extra)]⟩
  | .decodeBalancing p => some ⟨"DECODE_BALANCING", [("p", .bytes p.toList)]⟩
  | .decodeFaults p => some ⟨"DECODE_FAULTS", [("p", .bytes p.toList)]⟩
  | .frameStatus _ _ _ _ => none
  | .frameSoc _ _ _ _ => none
  | .frameCellRange _ _ _ _ => none
  | .frameTempRange _ _ _ _ => none
  | .frameMosfet _ _ _ _ => none
  | .frameCellVoltages _ _ _ _ => none
  | .frameTemperatures _ _ _ _ => none
  | .frameBalancing _ _ _ _ => none
  | .frameFaults _ _ _ _ => none
  | .frameSetChargeMos _ _ _ _ => none
  | .frameSetDischargeMos _ _ _ _ => none
  | .frameSetSoc _ _ _ _ => none
  | .frameRestart _ _ _ _ => none

/-- The line of a pseudo-operation (R100). -/
def Pseudo.asmLine : Pseudo → AsmLine
  | .socQuery => ⟨"SOC_QUERY", []⟩
  | .cellRangeQuery => ⟨"CELL_RANGE_QUERY", []⟩
  | .tempRangeQuery => ⟨"TEMP_RANGE_QUERY", []⟩
  | .mosfetQuery => ⟨"MOSFET_QUERY", []⟩
  | .balancingQuery => ⟨"BALANCING_QUERY", []⟩
  | .faultQuery => ⟨"FAULT_QUERY", []⟩
  | .setChargeMos extra => ⟨"SET_CHARGE_MOS", [("extra", .bytes extra)]⟩
  | .setDischargeMos extra => ⟨"SET_DISCHARGE_MOS", [("extra", .bytes extra)]⟩
  | .setSoc extra => ⟨"SET_SOC", [("extra", .bytes extra)]⟩
  | .restart extra => ⟨"RESTART", [("extra", .bytes extra)]⟩

/-- A hexadecimal digit. -/
def hexDigit (n : Nat) : String :=
  ["0", "1", "2", "3", "4", "5", "6", "7", "8", "9", "A", "B", "C", "D", "E", "F"].getD n ""

/-- A byte value in hexadecimal with `0x` (R99). -/
def hexByte (b : Byte) : String := "0x" ++ hexDigit (b.toNat / 16) ++ hexDigit (b.toNat % 16)

/-- The items with a comma and a space between one and the next. -/
def commaList : List String → String
  | [] => ""
  | [a] => a
  | a :: b :: rest => a ++ ", " ++ commaList (b :: rest)

/-- A byte in hexadecimal, a byte sequence in brackets (R99). -/
def AsmValue.text : AsmValue → String
  | .byte b => hexByte b
  | .bytes bs => "[" ++ commaList (bs.map hexByte) ++ "]"

/-- The mnemonic, then the operands as `name=value`, separated by commas (R99). -/
def AsmLine.text (l : AsmLine) : String :=
  match l.operands with
  | [] => l.mnemonic
  | o :: os => l.mnemonic ++ " " ++ commaList ((o :: os).map (fun x => x.1 ++ "=" ++ x.2.text))

/-- The word of a pseudo-operation: that of the one operation it expands to (R100). -/
def Pseudo.encodeWith (m : CmdMap) (p : Pseudo) : List Byte := Sys2Proof.encodeWith m (p.expand m)

end Sys2Proof
end

