-- ==== Sys2Proof/Tests/Slice0.lean ====
section
/-! SUPPORT. Tests. Words are written out from the tables of spec/30_encoding.md R80, R86, R95 and R96; expected results are
those of spec/95_test_vectors.md, named in each theorem's comment. Then the witnesses of the statements' hypotheses. -/

namespace Sys2Proof.Tests

open Sys2Proof.Machine

/-- Bytes from numbers. -/
def bs (l : List Nat) : List Byte := l.map (BitVec.ofNat 8)

/-- A payload from numbers. -/
def pay (l : List Nat) : Payload := Payload.ofList (bs l)

/-- The next state passes a check. -/
def nextIs (o : Host.Outcome State Fault Refusal) (check : State → Bool) : Bool :=
  match o with
  | .next t => check t
  | .fault _ => false
  | .refused _ => false

/-- One step of a state with one word at its host interface. -/
def stepWord (word : List Nat) (s : State) : Host.Outcome State Fault Refusal := step { s with inbox := [bs word] }

/-- A call that reports no error, with nothing in it. -/
def okAnswer : Answer := { count := 0, bytes := [], err := false }
/-- A write of 13 bytes. -/
def wrote : Answer := { count := 13, bytes := [], err := false }
/-- A call that reports an error. -/
def errAnswer : Answer := { count := 0, bytes := [], err := true }
/-- A write of `n` bytes. -/
def wroteN (n : Nat) : Answer := { count := n, bytes := [], err := false }
/-- A read that returns these bytes. -/
def readOf (l : List Nat) : Answer := { count := 0, bytes := bs l, err := false }

/-- The reply `G` of spec/95_test_vectors.md 2.1. -/
def frameG : List Nat := [0xA5, 0x01, 0x90, 0x08, 0x02, 0x0D, 0x00, 0x00, 0x75, 0x30, 0x03, 0xE8, 0xDD]

/-- The payload of `G`. -/
def payG : Payload := pay [0x02, 0x0D, 0x00, 0x00, 0x75, 0x30, 0x03, 0xE8]

/-- The link is open. -/
def opened (answers : List Answer) : State := { State.reset with link := true, answers := answers }

/-- The link is open and the session holds these two counts. -/
def session (cells sensors : Nat) (answers : List Answer) : State :=
  { State.reset with
    link := true, answers := answers, sessionValid := true, sessionStatus := pay [cells, sensors] }

/-- An exchange for `cmd` waits in slot `slot` of `n`. -/
def inSlot (cmd : Byte) (slot n : Nat) (answers : List Answer) : State :=
  { State.reset with
    link := true, engBusy := true, fsm := .collect, running := some .send, attempt := 1, rEff := 1,
    slot := BitVec.ofNat 8 slot, slotCarry := decide (255 < slot), xN := BitVec.ofNat 8 n, xCmd := cmd, answers := answers }

/-! ### Ill-formed terms are refused -/

/-- A byte list of a given length. -/
def zeros (n : Nat) : List Byte := List.replicate n 0

theorem zeros_length (n : Nat) : (zeros n).length = n := List.length_replicate

theorem test_wf_checksum : (Instr.checksum (zeros 256)).wellFormed = false := by simp [Instr.wellFormed, zeros_length]
theorem test_wf_encode : (Instr.encode 0 (zeros 256)).wellFormed = false := by simp [Instr.wellFormed, zeros_length]
theorem test_wf_decode : (Instr.decode 0 (zeros 256)).wellFormed = false := by simp [Instr.wellFormed, zeros_length]
theorem test_wf_send : (Instr.send 0 0 0 (zeros 256)).wellFormed = false := by simp [Instr.wellFormed, zeros_length]
theorem test_wf_set : (Instr.set 0 (zeros 256)).wellFormed = false := by simp [Instr.wellFormed, zeros_length]
theorem test_wf_longest : (Instr.send 0 0 0 (zeros 255)).wellFormed = true := by simp [Instr.wellFormed, zeros_length]

/-! ### Decoding of words written out from R95 and R96 -/

theorem test_decode_openLink : decodeOp [0x01] = .op (.openLink) := by decide
theorem test_decode_closeLink : decodeOp [0x02] = .op (.closeLink) := by decide
theorem test_decode_cfgWrite : decodeOp [0x03, 0x01, 0x00] = .op (.cfgWrite 1 0) := by decide
theorem test_decode_checksum : decodeOp [0x10, 0x02, 0xFF, 0x01] = .op (.checksum [0xFF, 0x01]) := by decide
theorem test_decode_encode : decodeOp [0x11, 0xDA, 0x01, 0x07] = .op (.encode 0xDA [0x07]) := by decide
theorem test_decode_decode : decodeOp [0x12, 0x90, 0x03, 0xA5, 0x01, 0x91] = .op (.decode 0x90 [0xA5, 0x01, 0x91]) := by decide
theorem test_decode_send : decodeOp [0x20, 0x95, 0x06, 0x03, 0x02, 0xAA, 0xBB] = .op (.send 0x95 6 3 [0xAA, 0xBB]) := by decide
theorem test_decode_reassemble : decodeOp [0x30, 0x02, 0x05] = .op (.reassemble 2 5) := by decide
theorem test_decode_planPages : decodeOp [0x31, 0x01] = .op (.planPages 1) := by decide
theorem test_decode_statusQuery : decodeOp [0x40] = .op (.statusQuery) := by decide
theorem test_decode_queryCells : decodeOp [0x41] = .op (.queryCells) := by decide
theorem test_decode_queryTemps : decodeOp [0x42] = .op (.queryTemps) := by decide
theorem test_decode_query : decodeOp [0x43, 0x97] = .op (.query 0x97) := by decide
theorem test_decode_set : decodeOp [0x44, 0xDA, 0x01, 0x02] = .op (.set 0xDA [0x02]) := by decide
theorem test_decode_decodeBalancing : decodeOp [0x50, 1, 2, 3, 4, 5, 6, 7, 8] = .op (.decodeBalancing ⟨1, 2, 3, 4, 5, 6, 7, 8⟩) := by decide
theorem test_decode_decodeFaults : decodeOp [0x51, 1, 2, 3, 4, 5, 6, 7, 8] = .op (.decodeFaults ⟨1, 2, 3, 4, 5, 6, 7, 8⟩) := by decide

theorem test_decode_undefined : decodeOp [0x52, 0x01] = .illegal 0x52 := by decide
theorem test_decode_too_short : decodeOp [0x43] = .malformed := by decide
theorem test_decode_too_long : decodeOp [0x01, 0x00] = .malformed := by decide
theorem test_decode_len_disagrees : decodeOp [0x10, 0x02, 0xFF] = .malformed := by decide

/-! ### Decoding of frames written out from R80 and R86 (default command map) -/

theorem test_decode_frameStatus :
    decodeWire CmdMap.default [0xA5, 0x40, 0x94, 0x08, 1, 2, 3, 4, 5, 6, 7, 8, 0x32] =
      some (.frameStatus 0xA5 0x40 ⟨1, 2, 3, 4, 5, 6, 7, 8⟩ 0x32) := by decide
theorem test_decode_frameSoc :
    decodeWire CmdMap.default [0xA5, 0x40, 0x90, 0x08, 1, 2, 3, 4, 5, 6, 7, 8, 0x32] =
      some (.frameSoc 0xA5 0x40 ⟨1, 2, 3, 4, 5, 6, 7, 8⟩ 0x32) := by decide
theorem test_decode_frameCellRange :
    decodeWire CmdMap.default [0xA5, 0x40, 0x91, 0x08, 1, 2, 3, 4, 5, 6, 7, 8, 0x32] =
      some (.frameCellRange 0xA5 0x40 ⟨1, 2, 3, 4, 5, 6, 7, 8⟩ 0x32) := by decide
theorem test_decode_frameTempRange :
    decodeWire CmdMap.default [0xA5, 0x40, 0x92, 0x08, 1, 2, 3, 4, 5, 6, 7, 8, 0x32] =
      some (.frameTempRange 0xA5 0x40 ⟨1, 2, 3, 4, 5, 6, 7, 8⟩ 0x32) := by decide
theorem test_decode_frameMosfet :
    decodeWire CmdMap.default [0xA5, 0x40, 0x93, 0x08, 1, 2, 3, 4, 5, 6, 7, 8, 0x32] =
      some (.frameMosfet 0xA5 0x40 ⟨1, 2, 3, 4, 5, 6, 7, 8⟩ 0x32) := by decide
theorem test_decode_frameCellVoltages :
    decodeWire CmdMap.default [0xA5, 0x40, 0x95, 0x08, 1, 2, 3, 4, 5, 6, 7, 8, 0x32] =
      some (.frameCellVoltages 0xA5 0x40 ⟨1, 2, 3, 4, 5, 6, 7, 8⟩ 0x32) := by decide
theorem test_decode_frameTemperatures :
    decodeWire CmdMap.default [0xA5, 0x40, 0x96, 0x08, 1, 2, 3, 4, 5, 6, 7, 8, 0x32] =
      some (.frameTemperatures 0xA5 0x40 ⟨1, 2, 3, 4, 5, 6, 7, 8⟩ 0x32) := by decide
theorem test_decode_frameBalancing :
    decodeWire CmdMap.default [0xA5, 0x40, 0x97, 0x08, 1, 2, 3, 4, 5, 6, 7, 8, 0x32] =
      some (.frameBalancing 0xA5 0x40 ⟨1, 2, 3, 4, 5, 6, 7, 8⟩ 0x32) := by decide
theorem test_decode_frameFaults :
    decodeWire CmdMap.default [0xA5, 0x40, 0x98, 0x08, 1, 2, 3, 4, 5, 6, 7, 8, 0x32] =
      some (.frameFaults 0xA5 0x40 ⟨1, 2, 3, 4, 5, 6, 7, 8⟩ 0x32) := by decide
theorem test_decode_frameSetChargeMos :
    decodeWire CmdMap.default [0xA5, 0x40, 0xDA, 0x08, 1, 2, 3, 4, 5, 6, 7, 8, 0x32] =
      some (.frameSetChargeMos 0xA5 0x40 ⟨1, 2, 3, 4, 5, 6, 7, 8⟩ 0x32) := by decide
theorem test_decode_frameSetDischargeMos :
    decodeWire CmdMap.default [0xA5, 0x40, 0xD9, 0x08, 1, 2, 3, 4, 5, 6, 7, 8, 0x32] =
      some (.frameSetDischargeMos 0xA5 0x40 ⟨1, 2, 3, 4, 5, 6, 7, 8⟩ 0x32) := by decide
theorem test_decode_frameSetSoc :
    decodeWire CmdMap.default [0xA5, 0x40, 0x21, 0x08, 1, 2, 3, 4, 5, 6, 7, 8, 0x32] =
      some (.frameSetSoc 0xA5 0x40 ⟨1, 2, 3, 4, 5, 6, 7, 8⟩ 0x32) := by decide
theorem test_decode_frameRestart :
    decodeWire CmdMap.default [0xA5, 0x40, 0x00, 0x08, 1, 2, 3, 4, 5, 6, 7, 8, 0x32] =
      some (.frameRestart 0xA5 0x40 ⟨1, 2, 3, 4, 5, 6, 7, 8⟩ 0x32) := by decide

theorem test_decode_frame_length_byte :
    decodeWire CmdMap.default [0xA5, 0x40, 0x90, 0x07, 0, 0, 0, 0, 0, 0, 0, 0, 0] = none := by decide
theorem test_decode_frame_other_command :
    decodeWire CmdMap.default [0xA5, 0x40, 0x99, 0x08, 0, 0, 0, 0, 0, 0, 0, 0, 0] = none := by decide

/-- The table numbers a frame row with byte 0 in bits 103..96 (R80). -/
theorem test_table_frame :
    decodeTableWord 104 0xA540900801020304050607087D = some (.frameSoc 0xA5 0x40 ⟨1, 2, 3, 4, 5, 6, 7, 8⟩ 0x7D) := by
  decide
theorem test_table_op : decodeTableWord 8 0x43 = some (.query 0) := by decide
theorem test_table_undefined : decodeTableWord 8 0x13 = none := by decide

/-! ### Assembler lines and pseudo-operations (R99, R100) -/

theorem test_asm_encode : asmLine? (.encode 0x90 []) = some ⟨"ENCODE", [("cmd", .byte 0x90), ("extra", .bytes [])]⟩ := rfl
theorem test_asm_encode_word : encode (.encode 0x90 []) = [0x11, 0x90, 0x00] := by decide
theorem test_asm_text :
    (AsmLine.mk "ENCODE" [("cmd", .byte 0x90), ("extra", .bytes [])]).text = "ENCODE cmd=0x90, extra=[]" := by decide
theorem test_pseudo_balancing : Pseudo.balancingQuery.encodeWith CmdMap.default = [0x43, 0x97] := by decide
theorem test_pseudo_restart : (Pseudo.restart [7]).encodeWith CmdMap.default = [0x44, 0x00, 0x01, 7] := by decide

/-! ### One step of each operation -/

/-- S1. -/
theorem test_open_from_reset :
    nextIs (exec .openLink { State.reset with answers := [okAnswer] }) (fun t =>
      t.link && !t.sessionValid && t.engErr == 0 && !t.engBusy && t.history.length == 1) = true := by decide
/-- S3, with the error of the close ignored (R211). -/
theorem test_open_of_open :
    nextIs (exec .openLink (session 4 2 [errAnswer, okAnswer])) (fun t =>
      t.link && !t.sessionValid && t.engErr == 0 && t.history.length == 2) = true := by decide
/-- S4. -/
theorem test_close_of_closed :
    nextIs (exec .closeLink State.reset) (fun t => t.engErr == 0 && t.history == []) = true := by decide
/-- S5. -/
theorem test_close_error :
    nextIs (exec .closeLink (session 4 2 [errAnswer])) (fun t =>
      !t.link && !t.sessionValid && t.engErr == 1 && t.history == [.closeLink true]) = true := by decide
/-- S6. -/
theorem test_cfg_write :
    nextIs (stepWord [0x03, 0x01, 0x00] State.reset) (fun t => t.addrVariant == .wireless && t.retries == 1) = true := by decide
/-- S7. -/
theorem test_cfg_write_refused :
    nextIs (stepWord [0x03, 0x02, 0x05] State.reset) (fun t =>
      t.engErr == 0x0A && t.addrVariant == .wired && t.retries == 3) = true := by decide
/-- spec/95 2.1. -/
theorem test_checksum_wraps :
    nextIs (stepWord [0x10, 0x02, 0xFF, 0x01] State.reset) (fun t => t.resChecksum == 0x00 && t.engErr == 0) = true := by decide
/-- spec/95 2.1. -/
theorem test_checksum_twelve :
    nextIs (exec (.checksum (List.replicate 12 0xFF)) State.reset) (fun t => t.resChecksum == 0xF4) = true := by decide
/-- spec/95 2.1. -/
theorem test_encode_wireless :
    nextIs (exec (.encode 0xDA [0x01]) { State.reset with addrVariant := .wireless }) (fun t =>
      t.txbuf.toBytes == bs [0xA5, 0x80, 0xDA, 0x08, 0x01, 0, 0, 0, 0, 0, 0, 0, 0x08]) = true := by decide
/-- spec/95 2.1. -/
theorem test_encode_nine :
    nextIs (exec (.encode 0x21 (bs [1, 2, 3, 4, 5, 6, 7, 8, 9])) State.reset) (fun t =>
      t.engErr == 0x07 && t.txbuf == Frame.zero) = true := by decide
/-- spec/95 2.1. -/
theorem test_decode_payload :
    nextIs (exec (.decode 0x90 (bs frameG)) State.reset) (fun t => t.resPayload == payG && t.engErr == 0) = true := by decide
/-- spec/95 2.1: byte 12 changed to 0xDE and another command. -/
theorem test_decode_checksum_first :
    nextIs (exec (.decode 0x91 (bs (frameG.set 12 0xDE))) State.reset) (fun t =>
      t.engErr == 0x03 && t.resPayload == Payload.zero) = true := by decide
/-- W5. -/
theorem test_send_retries :
    nextIs (stepWord [0x20, 0x90, 0x01, 0x03, 0x00]
      (opened [okAnswer, errAnswer, okAnswer, errAnswer, okAnswer, wrote, readOf frameG])) (fun t =>
      t.engErr == 0 && t.reply == [payG] && t.history.countP isDelay == 2 && t.history.length == 9 && !t.engBusy) = true := by decide
/-- X6. -/
theorem test_send_short_read :
    nextIs (exec (.send 0x90 2 1 []) (opened [okAnswer, wrote, readOf (frameG.take 5)])) (fun t =>
      t.engErr == 0x05 && t.engErrCmd == 0x90 && t.engCause == 0x09 && t.engDetail == 0x03 && t.reply == [] &&
      t.history.drop 3 == [.log (.shortRead 5)]) = true := by decide
/-- X13: the drain's error is logged and the attempt goes on. -/
theorem test_send_drain_error :
    nextIs (exec (.send 0x90 1 1 []) (opened [errAnswer, wrote, readOf frameG])) (fun t =>
      t.engErr == 0 && t.reply == [payG] && t.history.take 2 == [.drain true, .log (.drainFailed 0x90)]) = true := by decide
/-- R41, R150: X.EXTRA keeps eight of the nine bytes. -/
theorem test_send_nine_latched :
    nextIs (exec (.send 0x90 1 1 (bs [1, 2, 3, 4, 5, 6, 7, 8, 9])) (opened [])) (fun t =>
      t.engErr == 0x07 && t.xExtra == bs [1, 2, 3, 4, 5, 6, 7, 8] && t.xRest == [9]) = true := by decide
/-- R6, R150: SLOT counts past X.N = 255, and the collection ends. -/
theorem test_last_slot_of_255 :
    nextIs (exec (.frameSoc 0xA5 0x01 payG 0xDD) (inSlot 0x90 255 255 [])) (fun t =>
      slotsTaken t && t.slot == 0 && t.reply == [payG]) = true := by decide
/-- W1. -/
theorem test_reassemble_mid_page :
    nextIs (exec (.reassemble 2 5) { State.reset with
      reply := [pay [1, 0, 0x0A, 0, 0x14, 0, 0x1E, 0], pay [2, 0, 0x28, 0, 0x32, 0, 0x3C, 0]] }) (fun t =>
      t.series == [10, 20, 30, 40, 50] && t.history == []) = true := by decide
/-- spec/95 2.3. -/
theorem test_reassemble_signed :
    nextIs (exec (.reassemble 1 7) { State.reset with reply := [pay [3, 0x41, 0x42, 0xFF, 0x80, 0x7F, 0, 1]] }) (fun t =>
      t.series == [65, 66, -1, -128, 127, 0, 1] && t.history == [.log (.pageIndexMismatch 1 3)]) = true := by decide
/-- spec/95 2.3. -/
theorem test_plan_pages :
    nextIs (exec (.planPages 0) (session 16 8 [])) (fun t => t.resPages == 6) = true := by decide
/-- spec/95 2.3. -/
theorem test_plan_pages_kind_first :
    nextIs (exec (.planPages 2) State.reset) (fun t => t.engErr == 0x0A && t.resPages == 0) = true := by decide
/-- S8. -/
theorem test_status_query :
    nextIs (exec .statusQuery (opened [okAnswer, wrote,
      readOf [0xA5, 0x01, 0x94, 0x08, 0x10, 0x04, 0, 0, 0, 0, 0, 0, 0x56]])) (fun t =>
      t.sessionValid && sessionCells t == 16 && sessionSensors t == 4 && t.txbuf.ck == 0x81) = true := by decide
/-- S9, with one attempt. -/
theorem test_status_query_fails :
    nextIs (exec .statusQuery { session 16 4 [okAnswer, wrote, okAnswer] with retries := 1 }) (fun t =>
      t.engErr == 0x05 && t.engErrCmd == 0x94 && sessionCells t == 16 && t.sessionValid) = true := by decide
/-- S12. -/
theorem test_query_cells :
    nextIs (exec .queryCells { session 4 2 [okAnswer, wrote,
        readOf [0xA5, 0x01, 0x95, 0x08, 0x01, 0x0C, 0xE4, 0x0C, 0xE5, 0x0C, 0xE6, 0x00, 0x17],
        readOf [0xA5, 0x01, 0x95, 0x08, 0x02, 0x0C, 0xE7, 0, 0, 0, 0, 0, 0x38], okAnswer] with addrVariant := .wireless })
      (fun t => t.resPages == 16 && t.reply.length == 2 && t.series == [3300, 3301, 3302, 3303] && t.txbuf.ck == 0xC2) = true := by decide
/-- S11, with one attempt. -/
theorem test_query_cells_no_cells :
    nextIs (exec .queryCells { session 0 2 [okAnswer, wrote] with retries := 1, series := [1] }) (fun t =>
      t.engErr == 0x05 && t.engDetail == 0 && t.resPages == 0 && t.series == []) = true := by decide
/-- P1. -/
theorem test_query_temps :
    nextIs (exec .queryTemps (session 4 2 [okAnswer, wrote,
      readOf [0xA5, 0x01, 0x96, 0x08, 0x01, 0x41, 0x42, 0, 0, 0, 0, 0, 0xC8]])) (fun t =>
      t.series == [65, 66] && t.resPages == 1 && t.txbuf.ck == 0x83) = true := by decide
/-- S10. -/
theorem test_query_no_session :
    nextIs (exec (.query 0x94) (opened [okAnswer, wrote,
      readOf [0xA5, 0x01, 0x94, 0x08, 0x10, 0x04, 0, 0, 0, 0, 0, 0, 0x56]])) (fun t =>
      t.reply == [pay [16, 4]] && !t.sessionValid) = true := by decide
/-- S13. -/
theorem test_set_empty :
    nextIs (exec (.set 0xDA []) (opened [okAnswer, wrote,
      readOf [0xA5, 0x01, 0xDA, 0x08, 0, 0, 0, 0, 0, 0, 0, 0, 0x88]])) (fun t => t.engErr == 0 && t.txbuf.ck == 0xC7) = true := by decide
/-- S14. -/
theorem test_set_too_long :
    nextIs (exec (.set 0xDA (bs [1, 2, 3, 4, 5, 6, 7, 8, 9])) (opened [])) (fun t =>
      t.engErr == 0x07 && t.history == []) = true := by decide
/-- spec/95 2.5. -/
theorem test_balancing_range :
    nextIs (exec (.decodeBalancing Payload.zero) (session 49 0 [])) (fun t => t.engErr == 0x0B && t.bal == []) = true := by decide
/-- spec/95 2.5. -/
theorem test_balancing_cell_49 :
    nextIs (exec (.decodeBalancing (pay [0, 1])) (session 49 0 [])) (fun t =>
      t.bal == List.replicate 48 false ++ [true]) = true := by decide
/-- spec/95 2.5. -/
theorem test_faults_two :
    nextIs (exec (.decodeFaults (pay [0, 0x12])) State.reset) (fun t =>
      t.fault.map (fun e => (e.byte, e.bit)) == [(1, 1), (1, 4)]) = true := by decide
/-- spec/95 2.5. -/
theorem test_faults_all :
    nextIs (exec (.decodeFaults (pay (List.replicate 8 0xFF))) State.reset) (fun t => t.fault.length == 64) = true := by decide
/-- E3. -/
theorem test_undefined_opc :
    nextIs (stepWord [0x13] State.reset) (fun t => t.engErr == 0x0D && t.history == []) = true := by decide
/-- E6. -/
theorem test_reset_mid_exchange :
    nextIs (step { inSlot 0x90 1 1 [] with resetLine := true, history := [.drain false] }) (fun t =>
      !t.engBusy && t.fsm == .idle && !t.link && t.retries == 3 && t.history == [.drain false]) = true := by decide
/-- R301. -/
theorem test_waits_for_the_read :
    nextIs (step (inSlot 0x90 1 1 [])) (fun t => t.engBusy && t.fsm == .collect) = true := by decide
/-- E5. -/
theorem test_host_read_flags : (hostRead .link (session 4 2 [])).1 == 1 && (hostRead .addrVariant State.reset).1 == 0 &&
      (hostRead .retries State.reset).1 == 3 && (hostRead .sessionValid State.reset).1 == 0 := by decide
/-- R76: a read while busy is a free value. -/
theorem test_host_read_busy :
    hostRead .resPages (inSlot 0x90 1 1 []) =
      (Config.unspecifiedRead 0, { inSlot 0x90 1 1 [] with draws := 1 }) := rfl

/-- R76, R36: so is the read of a fault's name. -/
theorem test_host_read_name_busy :
    hostReadName 0 (inSlot 0x90 1 1 []) =
      (Config.unspecifiedName 0, { inSlot 0x90 1 1 [] with draws := 1 }) := rfl

/-- R35. -/
theorem test_host_read_idle : (hostRead .resPages State.reset).1 = 0 := by decide

/-! ### One frame of each row in a waiting slot (R157): a valid frame's payload is collected -/

theorem test_frameStatus :
    nextIs (exec (.frameStatus 0xA5 0x01 ⟨1, 2, 3, 4, 5, 6, 7, 8⟩ 0x66) (inSlot 0x94 1 2 [])) (fun t =>
      t.reply == [pay [1, 2, 3, 4, 5, 6, 7, 8]] && t.slot == 2 && t.fsm == .collect) = true := by decide
theorem test_frameSoc :
    nextIs (exec (.frameSoc 0xA5 0x01 ⟨1, 2, 3, 4, 5, 6, 7, 8⟩ 0x62) (inSlot 0x90 1 2 [])) (fun t =>
      t.reply == [pay [1, 2, 3, 4, 5, 6, 7, 8]] && t.slot == 2 && t.fsm == .collect) = true := by decide
theorem test_frameCellRange :
    nextIs (exec (.frameCellRange 0xA5 0x01 ⟨1, 2, 3, 4, 5, 6, 7, 8⟩ 0x63) (inSlot 0x91 1 2 [])) (fun t =>
      t.reply == [pay [1, 2, 3, 4, 5, 6, 7, 8]] && t.slot == 2 && t.fsm == .collect) = true := by decide
theorem test_frameTempRange :
    nextIs (exec (.frameTempRange 0xA5 0x01 ⟨1, 2, 3, 4, 5, 6, 7, 8⟩ 0x64) (inSlot 0x92 1 2 [])) (fun t =>
      t.reply == [pay [1, 2, 3, 4, 5, 6, 7, 8]] && t.slot == 2 && t.fsm == .collect) = true := by decide
theorem test_frameMosfet :
    nextIs (exec (.frameMosfet 0xA5 0x01 ⟨1, 2, 3, 4, 5, 6, 7, 8⟩ 0x65) (inSlot 0x93 1 2 [])) (fun t =>
      t.reply == [pay [1, 2, 3, 4, 5, 6, 7, 8]] && t.slot == 2 && t.fsm == .collect) = true := by decide
theorem test_frameCellVoltages :
    nextIs (exec (.frameCellVoltages 0xA5 0x01 ⟨1, 2, 3, 4, 5, 6, 7, 8⟩ 0x67) (inSlot 0x95 1 2 [])) (fun t =>
      t.reply == [pay [1, 2, 3, 4, 5, 6, 7, 8]] && t.slot == 2 && t.fsm == .collect) = true := by decide
theorem test_frameTemperatures :
    nextIs (exec (.frameTemperatures 0xA5 0x01 ⟨1, 2, 3, 4, 5, 6, 7, 8⟩ 0x68) (inSlot 0x96 1 2 [])) (fun t =>
      t.reply == [pay [1, 2, 3, 4, 5, 6, 7, 8]] && t.slot == 2 && t.fsm == .collect) = true := by decide
theorem test_frameBalancing :
    nextIs (exec (.frameBalancing 0xA5 0x01 ⟨1, 2, 3, 4, 5, 6, 7, 8⟩ 0x69) (inSlot 0x97 1 2 [])) (fun t =>
      t.reply == [pay [1, 2, 3, 4, 5, 6, 7, 8]] && t.slot == 2 && t.fsm == .collect) = true := by decide
theorem test_frameFaults :
    nextIs (exec (.frameFaults 0xA5 0x01 ⟨1, 2, 3, 4, 5, 6, 7, 8⟩ 0x6A) (inSlot 0x98 1 2 [])) (fun t =>
      t.reply == [pay [1, 2, 3, 4, 5, 6, 7, 8]] && t.slot == 2 && t.fsm == .collect) = true := by decide
theorem test_frameSetChargeMos :
    nextIs (exec (.frameSetChargeMos 0xA5 0x01 ⟨1, 2, 3, 4, 5, 6, 7, 8⟩ 0xAC) (inSlot 0xDA 1 2 [])) (fun t =>
      t.reply == [pay [1, 2, 3, 4, 5, 6, 7, 8]] && t.slot == 2 && t.fsm == .collect) = true := by decide
theorem test_frameSetDischargeMos :
    nextIs (exec (.frameSetDischargeMos 0xA5 0x01 ⟨1, 2, 3, 4, 5, 6, 7, 8⟩ 0xAB) (inSlot 0xD9 1 2 [])) (fun t =>
      t.reply == [pay [1, 2, 3, 4, 5, 6, 7, 8]] && t.slot == 2 && t.fsm == .collect) = true := by decide
theorem test_frameSetSoc :
    nextIs (exec (.frameSetSoc 0xA5 0x01 ⟨1, 2, 3, 4, 5, 6, 7, 8⟩ 0xF3) (inSlot 0x21 1 2 [])) (fun t =>
      t.reply == [pay [1, 2, 3, 4, 5, 6, 7, 8]] && t.slot == 2 && t.fsm == .collect) = true := by decide
theorem test_frameRestart :
    nextIs (exec (.frameRestart 0xA5 0x01 ⟨1, 2, 3, 4, 5, 6, 7, 8⟩ 0xD2) (inSlot 0x00 1 2 [])) (fun t =>
      t.reply == [pay [1, 2, 3, 4, 5, 6, 7, 8]] && t.slot == 2 && t.fsm == .collect) = true := by decide

/-- X5: a stale frame of another command uses up its slot. -/
theorem test_stale_frame :
    nextIs (exec (.frameCellRange 0xA5 0x01 Payload.zero 0x3F) (inSlot 0x90 1 2 [])) (fun t =>
      t.reply == [] && t.slot == 2 && t.lastDetail == 0x05) = true := by decide

/-- The host's placements run what they place. -/
theorem test_fetch_op :
    nextIs (step (State.reset.withFetchWord 8 0x20)) (fun t => t.engErr == 0x0C && t.inbox == []) = true := by decide
theorem test_fetch_frame :
    nextIs (step (State.reset.withFetchWord 104 0xA501900802000000000000003A)) (fun t =>
      t.rxlen == 13 && t.slot == 2) = true := by decide


/-! ### Witnesses: a state and operands that meet each statement's hypotheses -/

theorem idle_reset : Idle State.reset := ⟨rfl, rfl, rfl⟩
theorem idle_opened (a : List Answer) : Idle (opened a) := ⟨rfl, rfl, rfl⟩
theorem idle_session (c n : Nat) (a : List Answer) : Idle (session c n a) := ⟨rfl, rfl, rfl⟩

theorem witness_HostWordsReadBack :
    (Instr.send 1 2 3 (zeros 255)).isHostOp = true ∧
    (Instr.send 1 2 3 (zeros 255)).wellFormed = true := by
  simp [Instr.isHostOp, Instr.wellFormed, zeros_length]

theorem witness_FramesReadBack :
    CmdMap.default.Distinct ∧ (Instr.frameRestart 0 255 Payload.zero 1).isHostOp = false := by decide

theorem witness_AReadWordIsItsOperationsWord : decodeOp [0x10, 0x01, 0xFF] = .op (.checksum [0xFF]) := by decide

theorem witness_UndefinedCodeIsIllegalOperation :
    let s : State := { State.reset with inbox := [[0x00, 0x01], [0xFF]] }
    Idle s ∧ s.resetLine = false ∧ s.inbox = (0x00 :: [0x01]) :: [[0xFF]] ∧
    (0x00 : Byte) ∉ ([0x01, 0x02, 0x03, 0x10, 0x11, 0x12, 0x20, 0x30, 0x31, 0x40, 0x41, 0x42, 0x43, 0x44, 0x50, 0x51] :
      List Byte) := ⟨⟨rfl, rfl, rfl⟩, rfl, rfl, by decide⟩

theorem witness_StepRunsTheDecodedWord :
    let s : State := { State.reset with inbox := [[0x43, 0x90]] }
    s.resetLine = false ∧ s.engBusy = false ∧ s.inbox = [[0x43, 0x90]] ∧ decodeOp [0x43, 0x90] = .op (.query 0x90) := by
  decide

/-- The last slot of the largest collection. -/
theorem witness_StepRunsTheSlotsFrame :
    let s := inSlot 0x90 255 255 [readOf frameG]
    s.resetLine = false ∧ slotWaiting s = true ∧ s.answers = readOf frameG :: [] ∧ (readOf frameG).err = false ∧
    decodeWire s.params.cmd (readBytes (readOf frameG)) = some (.frameSoc 0xA5 0x01 payG 0xDD) := by decide

theorem witness_StepIsTheNextTransition :
    let s := inSlot 0x90 1 0 []
    s.resetLine = false ∧ s.engBusy = true ∧ slotFrame? s = none ∧ advance s = some (endCollection s) := by
  refine ⟨rfl, rfl, rfl, rfl⟩

/-- Each of the calls that can be unanswered. -/
theorem witness_AnUnansweredCallLeavesTheBlockBusy :
    let waits (s : State) : Prop := s.resetLine = false ∧ s.engBusy = true ∧ s.answers = []
    let at' (f : Fsm) (r : Running) : State := { inSlot 0x90 1 1 [] with fsm := f, running := some r }
    waits (at' .drain .send) ∧ waits (at' .write .query) ∧
    (waits (inSlot 0x90 1 1 []) ∧ slotsTaken (inSlot 0x90 1 1 []) = false) ∧
    (waits (inSlot 0x90 255 255 []) ∧ slotsTaken (inSlot 0x90 255 255 []) = false) ∧
    waits (at' .idle .openClosing) ∧ waits (at' .idle .openOpening) ∧ waits (at' .idle .closing) := by
  refine ⟨⟨rfl, rfl, rfl⟩, ⟨rfl, rfl, rfl⟩, ⟨⟨rfl, rfl, rfl⟩, by decide⟩, ⟨⟨rfl, rfl, rfl⟩, by decide⟩, ⟨rfl, rfl, rfl⟩,
    ⟨rfl, rfl, rfl⟩, ⟨rfl, rfl, rfl⟩⟩

theorem witness_AnOperationIssuedWhileBusyIsHeld :
    (inSlot 0x90 1 1 []).engBusy = true ∧ Instr.statusQuery.isHostOp = true := by decide

theorem witness_AnOperationRunsToItsEndOrToAnUnansweredCall :
    Idle State.reset ∧ (Instr.planPages 0).isHostOp = true ∧ ∃ t, exec (.planPages 0) State.reset = .next t :=
  ⟨idle_reset, rfl, _, rfl⟩

theorem witness_ResetAbandonsTheOperation : ({ inSlot 0x90 1 1 [] with resetLine := true } : State).resetLine = true := rfl

theorem witness_TheHistoryOnlyGrows : ∃ t, step (inSlot 0x90 1 1 [okAnswer]) = .next t := ⟨_, rfl⟩

theorem witness_ChecksumWritesTheSum : Idle State.reset := idle_reset

/-- No extra byte, and exactly 8. -/
theorem witness_EncodeBuildsTheRequestFrame :
    Idle State.reset ∧ ([] : List Byte).length ≤ 8 ∧ (bs [1, 2, 3, 4, 5, 6, 7, 8]).length ≤ 8 :=
  ⟨idle_reset, by decide, by decide⟩

theorem witness_EncodeNeverTruncates : Idle State.reset ∧ 8 < (bs [1, 2, 3, 4, 5, 6, 7, 8, 9]).length :=
  ⟨idle_reset, by decide⟩

theorem witness_DecodeExtractsThePayload :
    Idle State.reset ∧
    (0xDD : Byte) = BitVec.ofNat 8 ((([0xA5, 0x01, 0x90, 0x08] ++ payG.toList).map BitVec.toNat).sum) ∧
    (0x90 : Byte) = 0x90 := ⟨idle_reset, by decide, rfl⟩

/-- Each of the three tests failing: 12 bytes, 14 bytes, a wrong checksum, another command. -/
theorem witness_DecodeReportsTheFirstFailingTest :
    Idle State.reset ∧ (bs (frameG.take 12)).length ≠ 13 ∧ (bs (frameG ++ [0])).length ≠ 13 ∧
    ((bs (frameG.set 12 0xDE)).length = 13 ∧
      (bs (frameG.set 12 0xDE)).getD 12 0 ≠ checksum ((bs (frameG.set 12 0xDE)).take 12)) ∧
    ((bs frameG).length = 13 ∧ (bs frameG).getD 12 0 = checksum ((bs frameG).take 12) ∧ (bs frameG).getD 2 0 ≠ 0x91) :=
  ⟨idle_reset, by decide, by decide, by decide, by decide⟩

theorem witness_EncodeThenDecodeGivesThePaddedExtra : (bs [1, 2, 3, 4, 5, 6, 7, 8]).length ≤ 8 := by decide

/-- The first and the last byte of a frame. -/
theorem witness_OneChangedByteIsAlwaysDetected :
    codecDecode (bs frameG) 0x90 = .ok payG ∧ (0 < 13 ∧ (bs frameG)[0]? ≠ some (0x00 : Byte)) ∧
    (12 < 13 ∧ (bs frameG)[12]? ≠ some (0xDE : Byte)) := ⟨rfl, by decide, by decide⟩

/-- W9's two bytes, and the last two of the payload. -/
theorem witness_TwoBitSevenFlipsInThePayloadPass :
    codecDecode (bs frameG) 0x90 = .ok payG ∧
    (4 ≤ 4 ∧ 4 < 5 ∧ 5 ≤ 11 ∧ (bs frameG)[4]? = some (0x02 : Byte) ∧ (bs frameG)[5]? = some (0x0D : Byte)) ∧
    (4 ≤ 10 ∧ 10 < 11 ∧ 11 ≤ 11 ∧ (bs frameG)[10]? = some (0x03 : Byte) ∧ (bs frameG)[11]? = some (0xE8 : Byte)) :=
  ⟨rfl, by decide, by decide⟩

theorem witness_ReassembleCutsTheItemsAtTheCount :
    let s : State := { State.reset with reply := [payG] }
    Idle s ∧ ((1 : Byte) = 1 ∨ (1 : Byte) = 2) ∧ ((2 : Byte) = 1 ∨ (2 : Byte) = 2) ∧ s.reply.length ≤ 255 ∧
    6 < (seriesOf 1 255 s.reply).length ∧ s.reply[6 / 7]? = some payG ∧
    2 < (seriesOf 2 255 s.reply).length ∧ s.reply[2 / 3]? = some payG :=
  ⟨⟨rfl, rfl, rfl⟩, .inl rfl, .inr rfl, by decide, by decide, rfl, by decide, rfl⟩

/-- Both kinds, both variants. -/
theorem witness_PlanPagesPlansTheLeastPageCount :
    Idle (session 255 255 []) ∧ (session 255 255 []).sessionValid = true ∧ (0 : Byte) ≤ 1 ∧ (1 : Byte) ≤ 1 ∧
    (session 255 255 []).addrVariant = .wired ∧
    ({ session 255 255 [] with addrVariant := .wireless } : State).addrVariant = .wireless :=
  ⟨idle_session _ _ _, rfl, by decide, by decide, rfl, rfl⟩

theorem witness_OpenStartsAFreshSession :
    (let s : State := { State.reset with answers := [okAnswer] };
      Idle s ∧ s.link = false ∧ s.answers = okAnswer :: []) ∧
    (let s := session 4 2 [errAnswer, okAnswer];
      Idle s ∧ s.link = true ∧ s.answers = errAnswer :: okAnswer :: []) :=
  ⟨⟨⟨rfl, rfl, rfl⟩, rfl, rfl⟩, idle_session _ _ _, rfl, rfl⟩

theorem witness_CloseTearsTheLinkDown :
    (Idle (opened [errAnswer]) ∧ (opened [errAnswer]).link = true ∧ (opened [errAnswer]).answers = errAnswer :: []) ∧
    (Idle State.reset ∧ State.reset.link = false) := ⟨⟨idle_opened _, rfl, rfl⟩, idle_reset, rfl⟩

theorem witness_CfgWriteWritesBothFieldsOrNeither :
    Idle State.reset ∧ (0 : Byte) ≤ 1 ∧ (1 : Byte) ≤ 1 ∧ (1 : Byte) < 2 := ⟨idle_reset, by decide, by decide, by decide⟩

/-- An instruction other than CFG_WRITE that runs, and a step that does change the configuration. -/
theorem witness_OnlyCfgWriteChangesTheConfiguration :
    ((∃ t, exec .closeLink State.reset = .next t) ∧ ∀ variant retries, Instr.closeLink ≠ .cfgWrite variant retries) ∧
    (∃ s t : State, s.resetLine = false ∧ step s = .next t ∧ (t.addrVariant ≠ s.addrVariant ∨ t.retries ≠ s.retries)) :=
  ⟨⟨⟨_, rfl⟩, fun _ _ h => by cases h⟩,
    { State.reset with inbox := [[0x03, 0x01, 0x02]] }, _, rfl, rfl, .inl (by decide)⟩

/-- The boundary operands: VARIANT 2, W 0 and 3, KIND 2. -/
theorem witness_InvalidOperandsAreRefused :
    Idle State.reset ∧ (1 : Byte) < 2 ∧ ((0 : Byte) ≠ 1 ∧ (0 : Byte) ≠ 2) ∧ ((3 : Byte) ≠ 1 ∧ (3 : Byte) ≠ 2) :=
  ⟨idle_reset, by decide, by decide, by decide⟩

/-- The status reply of S8. -/
def statusReply : Answer := readOf [0xA5, 0x01, 0x94, 0x08, 0x10, 0x04, 0, 0, 0, 0, 0, 0, 0x56]

/-- The first cell page of P1. -/
def cellPage : Answer := readOf [0xA5, 0x01, 0x95, 0x08, 0x01, 0x0C, 0xE4, 0x0C, 0xE5, 0x0C, 0xE6, 0x00, 0x17]

theorem validG : ValidReads 0x90 [readOf frameG] [payG] := .cons ⟨rfl, rfl⟩ .nil

/-- A write of 13 bytes without an error; whatever the drain before it answers. -/
theorem accepted : AcceptedWrite wrote := ⟨rfl, rfl⟩

/-- Both outcomes of the drain before an accepted write, the second that of X13. -/
theorem witness_drains :
    drainEvents 0x90 okAnswer = [.drain false] ∧ drainEvents 0x90 errAnswer = [.drain true, .log (.drainFailed 0x90)] :=
  ⟨rfl, rfl⟩

theorem witness_SendCollectsEverySlotsFrame :
    let s := opened (errAnswer :: wrote :: ([readOf frameG] ++ [errAnswer]))
    Idle s ∧ s.link = true ∧ (bs [1, 2, 3, 4, 5, 6, 7, 8]).length ≤ 8 ∧ (1 : Byte) ≠ 0 ∧
    s.answers = errAnswer :: wrote :: ([readOf frameG] ++ [errAnswer]) ∧ AcceptedWrite wrote ∧
    [readOf frameG].length = (1 : Byte).toNat ∧ ValidReads 0x90 [readOf frameG] [payG] :=
  ⟨idle_opened _, rfl, by decide, by decide, rfl, accepted, rfl, validG⟩

/-- Each of the reads that end collection: an error, no byte, 12 bytes. -/
theorem witness_SendSucceedsWithFewerFrames :
    let s (e : Answer) := opened (okAnswer :: wrote :: ([readOf frameG] ++ e :: []));
    (∀ e, Idle (s e) ∧ (s e).link = true ∧ (s e).answers = okAnswer :: wrote :: ([readOf frameG] ++ e :: [])) ∧
    ([] : List Byte).length ≤ 8 ∧ AcceptedWrite wrote ∧
    1 ≤ [readOf frameG].length ∧ [readOf frameG].length < (2 : Byte).toNat ∧ ValidReads 0x90 [readOf frameG] [payG] ∧
    errAnswer.err = true ∧ (readBytes okAnswer).length < 13 ∧ (readBytes (readOf (frameG.take 12))).length < 13 :=
  ⟨fun _ => ⟨idle_opened _, rfl, rfl⟩, by decide, accepted, by decide, by decide, validG, rfl, by decide, by decide⟩

/-- A write error with a full count, a count of 12, of 14 and of 300; two attempts. -/
theorem witness_SendRetriesAFailingWrite :
    let s (w : Answer) := opened ((List.replicate (max 1 (2 : Byte).toNat) [okAnswer, w]).flatten ++ []);
    (∀ w, Idle (s w) ∧ (s w).link = true ∧
      (s w).answers = (List.replicate (max 1 (2 : Byte).toNat) [okAnswer, w]).flatten ++ []) ∧
    ([] : List Byte).length ≤ 8 ∧
    ({ count := 13, bytes := [], err := true } : Answer).err = true ∧ (wroteN 12).count ≠ 13 ∧ (wroteN 14).count ≠ 13 ∧
    (wroteN 300).count ≠ 13 :=
  ⟨fun _ => ⟨idle_opened _, rfl, rfl⟩, by decide, rfl, by decide, by decide, by decide⟩

/-- R = 0, which makes one attempt, and R = 2. -/
theorem witness_SendToASilentDeviceFailsAfterAllAttempts :
    let s (r : Byte) := opened ((List.replicate (max 1 r.toNat) [okAnswer, wrote, okAnswer]).flatten ++ [])
    Idle (s 0) ∧ Idle (s 2) ∧ (s 0).link = true ∧ (s 2).link = true ∧ ([] : List Byte).length ≤ 8 ∧ (1 : Byte) ≠ 0 ∧
    AcceptedWrite wrote ∧ okAnswer.err = false ∧ okAnswer.bytes = [] ∧
    (s 2).answers = (List.replicate (max 1 (2 : Byte).toNat) [okAnswer, wrote, okAnswer]).flatten ++ [] :=
  ⟨idle_opened _, idle_opened _, rfl, rfl, by decide, by decide, accepted, rfl, rfl, rfl⟩

theorem witness_SendOfNoSlotsAlwaysFails :
    let s := opened ((List.replicate (max 1 (2 : Byte).toNat) [okAnswer, wrote]).flatten ++ [])
    Idle s ∧ s.link = true ∧ ([] : List Byte).length ≤ 8 ∧ AcceptedWrite wrote ∧
    s.answers = (List.replicate (max 1 (2 : Byte).toNat) [okAnswer, wrote]).flatten ++ [] :=
  ⟨idle_opened _, rfl, by decide, accepted, rfl⟩

/-- For each of the six operations an exchange that ends: SEND that succeeds in its second attempt, a STATUS_QUERY that
succeeds, and the others failing. -/
theorem witness_EventCountsOfAnExchange :
    let ends (i : Instr) (s : State) (cmd : Byte) (extra : List Byte) (n r err : Byte) : Prop :=
      Idle s ∧ s.link = true ∧ extra.length ≤ 8 ∧ RunsExchange s i cmd extra n r ∧
      nextIs (exec i s) (fun t => !t.engBusy && t.engErr == err) = true
    let failing : List Answer := (List.replicate 3 [okAnswer, errAnswer]).flatten
    ends (.send 0x90 1 3 []) (opened [okAnswer, errAnswer, errAnswer, wrote, readOf frameG]) 0x90 [] 1 3 0 ∧
    ends .statusQuery (opened [okAnswer, wrote, statusReply]) 0x94 [] 1 3 0 ∧
    ends .queryCells (session 3 2 failing) 0x95 [] 1 3 5 ∧
    ends .queryTemps (session 3 2 failing) 0x96 [] 1 3 5 ∧
    ends (.query 0x90) (opened failing) 0x90 [] 1 3 5 ∧
    ends (.set 0x90 (bs [1, 2, 3, 4, 5, 6, 7, 8])) (opened failing) 0x90 (bs [1, 2, 3, 4, 5, 6, 7, 8]) 1 3 5 :=
  ⟨⟨idle_opened _, rfl, by decide, .inl rfl, by decide⟩,
    ⟨idle_opened _, rfl, by decide, .inr (.inl ⟨rfl, rfl, rfl, rfl, rfl⟩), by decide⟩,
    ⟨idle_session _ _ _, rfl, by decide, .inr (.inr (.inl ⟨rfl, rfl, rfl, rfl, rfl, rfl⟩)), by decide⟩,
    ⟨idle_session _ _ _, rfl, by decide, .inr (.inr (.inr (.inl ⟨rfl, rfl, rfl, rfl, rfl, rfl⟩))), by decide⟩,
    ⟨idle_opened _, rfl, by decide, .inr (.inr (.inr (.inr (.inl ⟨rfl, rfl, rfl, rfl⟩)))), by decide⟩,
    ⟨idle_opened _, rfl, by decide, .inr (.inr (.inr (.inr (.inr ⟨rfl, rfl, rfl⟩)))), by decide⟩⟩

/-- The failure record the history gives: W6's write of 12 bytes, and a last attempt whose one read was short. -/
theorem witness_failureRecord :
    failureRecord 0x90 [.drain false, .write Frame.zero 12 false] = (0x08, 0, 12) ∧
    failureRecord 0x90 [.write Frame.zero 13 false, .read 13 (bs (frameG.take 5)) false, .log (.shortRead 5)] =
      (0x09, 0x03, 0) ∧
    collected 0x90 [.write Frame.zero 13 false, .read 13 (bs frameG) false] = [payG] := by decide

/-- A script the transport answers whole, one it does not, and one of a paginated query. -/
theorem witness_SendIsItsPseudocode :
    Idle (opened [okAnswer, errAnswer]) ∧ (refSend 0x90 1 1 [] (opened [okAnswer, errAnswer])).isSome = true ∧
    (refSend 0x90 1 1 [] (opened [okAnswer])).isSome = false ∧
    (refStatusQuery (opened [okAnswer, wrote, statusReply])).isSome = true ∧
    (refPaginated 0x95 1 2 3 (session 3 2 [okAnswer, wrote, cellPage])).isSome = true :=
  ⟨idle_opened _, by decide, by decide, by decide, by decide⟩

theorem witness_ExchangeOperationsNeedAnOpenLink :
    Idle State.reset ∧ State.reset.link = false ∧ InvSession State.reset := by
  refine ⟨idle_reset, rfl, fun _ => rfl, fun _ => rfl, fun h => ?_⟩
  cases h

theorem witness_LongExtraBytesAreNotSent :
    Idle (opened []) ∧ (opened []).link = true ∧ 8 < (bs [1, 2, 3, 4, 5, 6, 7, 8, 9]).length :=
  ⟨idle_opened _, rfl, by decide⟩

theorem witness_StatusQueryLoadsTheSession :
    let s := opened (errAnswer :: wrote :: statusReply :: [])
    Idle s ∧ s.link = true ∧ s.answers = errAnswer :: wrote :: statusReply :: [] ∧ AcceptedWrite wrote ∧
    ValidReads s.params.cmd.status [statusReply] [pay [16, 4]] :=
  ⟨idle_opened _, rfl, rfl, accepted, .cons ⟨rfl, rfl⟩ .nil⟩

theorem witness_QueryReturnsTheReply :
    let s := opened (okAnswer :: wrote :: readOf frameG :: [])
    Idle s ∧ s.link = true ∧ s.answers = okAnswer :: wrote :: readOf frameG :: [] ∧ AcceptedWrite wrote ∧
    ValidReads 0x90 [readOf frameG] [payG] := ⟨idle_opened _, rfl, rfl, accepted, validG⟩

theorem witness_SetSendsTheExtraBytes :
    let s := opened (okAnswer :: wrote :: readOf frameG :: [])
    Idle s ∧ s.link = true ∧ (bs [1, 2, 3, 4, 5, 6, 7, 8]).length ≤ 8 ∧
    s.answers = okAnswer :: wrote :: readOf frameG :: [] ∧ AcceptedWrite wrote ∧
    ValidReads 0x90 [readOf frameG] [payG] := ⟨idle_opened _, rfl, by decide, rfl, accepted, validG⟩

theorem witness_QueryCellsReassemblesTheCells :
    let s := session 3 2 (okAnswer :: wrote :: ([cellPage] ++ []))
    Idle s ∧ s.link = true ∧ s.sessionValid = true ∧ pagePlan .cells s ≠ 0 ∧
    s.answers = okAnswer :: wrote :: ([cellPage] ++ []) ∧ AcceptedWrite wrote ∧
    [cellPage].length = pagePlan .cells s ∧
    ValidReads s.params.cmd.cellVoltages [cellPage] [pay [0x01, 0x0C, 0xE4, 0x0C, 0xE5, 0x0C, 0xE6, 0x00]] :=
  ⟨idle_session _ _ _, rfl, rfl, by decide, rfl, accepted, rfl, .cons ⟨rfl, rfl⟩ .nil⟩

/-- The temperature page of P1. -/
def tempPage : Answer := readOf [0xA5, 0x01, 0x96, 0x08, 0x01, 0x41, 0x42, 0, 0, 0, 0, 0, 0xC8]

theorem witness_QueryTempsReassemblesTheSensors :
    let s := session 4 2 (okAnswer :: wrote :: ([tempPage] ++ []))
    Idle s ∧ s.link = true ∧ s.sessionValid = true ∧ pagePlan .temperatures s ≠ 0 ∧
    s.answers = okAnswer :: wrote :: ([tempPage] ++ []) ∧ AcceptedWrite wrote ∧
    [tempPage].length = pagePlan .temperatures s ∧
    ValidReads s.params.cmd.temperatures [tempPage] [pay [0x01, 0x41, 0x42]] :=
  ⟨idle_session _ _ _, rfl, rfl, by decide, rfl, accepted, rfl, .cons ⟨rfl, rfl⟩ .nil⟩

theorem witness_APaginatedQueryOfNoPagesFails :
    let s := session 0 0 ((List.replicate (max 1 (3 : Byte).toNat) [okAnswer, wrote]).flatten ++ [])
    Idle s ∧ s.link = true ∧ s.sessionValid = true ∧ AcceptedWrite wrote ∧
    s.answers = (List.replicate (max 1 s.retries.toNat) [okAnswer, wrote]).flatten ++ [] ∧
    pagePlan .cells s = 0 ∧ pagePlan .temperatures s = 0 :=
  ⟨idle_session _ _ _, rfl, rfl, accepted, rfl, rfl, rfl⟩

theorem witness_SessionOperationsNeedASession :
    Idle State.reset ∧ State.reset.sessionValid = false ∧ (0 : Byte) ≤ 1 ∧ (1 : Byte) ≤ 1 :=
  ⟨idle_reset, rfl, by decide, by decide⟩

/-- A status query that fails and one that has not ended. -/
theorem witness_AFailedStatusQueryKeepsTheSession :
    Idle State.reset ∧ nextIs (exec .statusQuery State.reset) (fun t => t.engErr != 0) = true ∧
    Idle (opened []) ∧ nextIs (exec .statusQuery (opened [])) (fun t => t.engBusy) = true :=
  ⟨idle_reset, by decide, idle_opened _, by decide⟩

/-- An operation that is none of the three; and steps that do change the session: an idle block that takes a STATUS_QUERY
word, and blocks that finish a waiting STATUS_QUERY and a waiting CLOSE. -/
theorem witness_OnlyThreeOperationsWriteTheSession :
    (((session 4 2 []).engBusy = false → Idle (session 4 2 [])) ∧ Instr.planPages 0 ≠ .statusQuery ∧
      Instr.planPages 0 ≠ .openLink ∧ Instr.planPages 0 ≠ .closeLink ∧
      ∃ t, exec (.planPages 0) (session 4 2 []) = .next t) ∧
    (let changes (s : State) : Prop :=
      s.resetLine = false ∧ (s.engBusy = false → Idle s) ∧ nextIs (step s) (fun t => t.sessionValid != s.sessionValid) = true
     changes { opened [okAnswer, wrote, statusReply] with inbox := [[0x40]] } ∧
     changes { inSlot 0x94 2 1 [] with fsm := .finish none, running := some .statusQuery, reply := [pay [16, 4]] } ∧
     changes { session 4 2 [okAnswer] with engBusy := true, running := some .closing }) :=
  ⟨⟨fun _ => idle_session _ _ _, by decide, by decide, by decide, _, rfl⟩,
    ⟨rfl, fun _ => ⟨rfl, rfl, rfl⟩, by decide⟩, ⟨rfl, (nomatch ·), by decide⟩, ⟨rfl, (nomatch ·), by decide⟩⟩

/-- 48 cells of any payload, and 64 with the top bit set. -/
theorem witness_DecodeBalancingReadsTheCellsBits :
    (Idle (session 48 0 []) ∧ (session 48 0 []).sessionValid = true ∧ (sessionCells (session 48 0 [])).toNat ≤ 48) ∧
    (Idle (session 64 0 []) ∧ (session 64 0 []).sessionValid = true ∧
      2 ^ ((sessionCells (session 64 0 [])).toNat - 1) ≤ be (pay [0x80]).toList) :=
  ⟨⟨idle_session _ _ _, rfl, by decide⟩, idle_session _ _ _, rfl, by decide⟩

/-- 49 cells of an empty payload, and 65 of a full one. -/
theorem witness_DecodeBalancingBeyondTheWidth :
    (Idle (session 49 0 []) ∧ (session 49 0 []).sessionValid = true ∧ 48 < (sessionCells (session 49 0 [])).toNat ∧
      be Payload.zero.toList < 2 ^ ((sessionCells (session 49 0 [])).toNat - 1)) ∧
    (Idle (session 65 0 []) ∧ 48 < (sessionCells (session 65 0 [])).toNat ∧
      be (pay (List.replicate 8 0xFF)).toList < 2 ^ ((sessionCells (session 65 0 [])).toNat - 1)) :=
  ⟨⟨idle_session _ _ _, rfl, by decide, by decide⟩, idle_session _ _ _, by decide, by decide⟩

theorem witness_DecodeFaultsListsEverySetBit : Idle State.reset := idle_reset

theorem witness_AValidFrameFillsItsSlot :
    let s := inSlot 0x90 255 255 []
    slotWaiting s = true ∧ s.xCmd = s.params.cmd.byte .soc ∧
    (0xDD : Byte) = checksum ([0xA5, 0x01, s.params.cmd.byte .soc, 0x08] ++ payG.toList) := by decide

/-- A wrong checksum, and another command. -/
theorem witness_AnInvalidFrameUsesUpItsSlot :
    let s := inSlot 0x90 1 1 []
    slotWaiting s = true ∧
    (0xDE : Byte) ≠ checksum ([0xA5, 0x01, s.params.cmd.byte .soc, 0x08] ++ payG.toList) ∧
    s.xCmd ≠ s.params.cmd.byte .cellRange := by decide

/-- No slot waits: the block is idle, and the collection has taken its last slot. -/
theorem witness_AFrameOutsideASlotIsLeftInTheTransport :
    slotWaiting State.reset = false ∧ slotWaiting (inSlot 0x90 2 1 []) = false := by decide

/-- A busy and an idle state that meet the invariants and take a step. -/
theorem witness_StepKeepsTheBusyFlag :
    (InvBusy (inSlot 0x90 1 1 []) ∧ ∃ t, step (inSlot 0x90 1 1 []) = .next t) ∧
    (InvBusy State.reset ∧ ∃ t, step State.reset = .next t) := by
  refine ⟨⟨?_, _, rfl⟩, ?_, _, rfl⟩ <;> unfold InvBusy <;> decide

theorem witness_StepKeepsTheSessionInvariant :
    InvSession (inSlot 0x90 1 1 []) ∧ ∃ t, step (inSlot 0x90 1 1 []) = .next t :=
  ⟨⟨fun _ => rfl, fun _ => rfl, fun _ => rfl⟩, _, rfl⟩

theorem witness_StepKeepsTheEngineCodes : InvEngine (inSlot 0x90 1 1 []) ∧ ∃ t, step (inSlot 0x90 1 1 []) = .next t := by
  refine ⟨⟨by decide, by decide, by decide, by decide, by decide, by decide, by decide, ?_, ?_⟩, _, rfl⟩
  · intro e h; cases h
  · intro h; cases h

theorem inv_exchange_slot : InvExchange (inSlot 0x90 1 1 []) := by
  refine ⟨by decide, by decide, ?_, by decide, ?_, ?_, by decide, ?_, ?_, by decide⟩ <;> intro h <;> cases h

theorem witness_StepKeepsTheExchangeBounds :
    InvExchange (inSlot 0x90 1 1 []) ∧ ∃ t, step (inSlot 0x90 1 1 []) = .next t := ⟨inv_exchange_slot, _, rfl⟩

theorem witness_StepKeepsTheBufferWidths :
    InvExchange (inSlot 0x90 1 1 []) ∧ InvBuffers (inSlot 0x90 1 1 []) ∧ ∃ t, step (inSlot 0x90 1 1 []) = .next t := by
  refine ⟨inv_exchange_slot, ⟨by decide, ?_, by decide, by decide, by decide, by decide, by decide⟩, _, rfl⟩
  intro v h
  cases h

end Sys2Proof.Tests
end

/-! PROOFS. The statements on scope: the history is never read (spec/00_scope.md R8), and only CFG_WRITE changes the
configuration (R3, spec/70_reset_and_hazards.md R293). -/

namespace Sys2Proof.Machine

/-! ### What a step and an accepted operation can do -/

/-- What a body keeps, its operation keeps, run or held. -/
theorem accept_keeps {β : Type} {view : State → β} {i : Instr} {body : State → State} {s t : State}
    (h : accept i body s = .next t) (hbusy : ∀ u b, view { u with engBusy := b } = view u)
    (hhold : ∀ u, view (hold i u) = view u) (hbody : ∀ u, view (body u) = view u) : view t = view s := by
  cases hb : s.engBusy with
  | false =>
    rw [accept_idle hb] at h
    cases h
    exact (hbody _).trans (hbusy s true)
  | true =>
    rw [accept_busy hb] at h
    cases h
    exact hhold s

/-- A waiting slot's frame is a frame row of the map, and the state it runs in has one answer fewer (R155). -/
theorem slotFrame_some {s u : State} {i : Instr} (h : slotFrame? s = some (i, u)) :
    ∃ c start addr p ck a rest, i = wireInstr c start addr p ck ∧
      slotWaiting s = true ∧ s.answers = a :: rest ∧ a.err = false ∧
      readBytes a = wireBytes (s.params.cmd.byte c) start addr p ck ∧ u = { s with answers := rest } := by
  unfold slotFrame? at h
  split at h
  · rename_i hwait
    split at h
    · cases h
    · rename_i a rest hanswers
      split at h
      · cases h
      · rename_i herr
        obtain ⟨j, hj, hpair⟩ := Option.map_eq_some_iff.mp h
        cases hpair
        obtain ⟨c, start, addr, p, ck, hi, hbytes⟩ := decodeWire_some hj
        exact ⟨c, start, addr, p, ck, a, rest, hi, hwait, hanswers, by simpa using herr, hbytes, rfl⟩
  · cases h

/-- Everything a step can do: a reset, a frame row or another transition of the running operation, the oldest word held,
or nothing, where the block waits. -/
theorem step_cases {s t : State} (h : step s = .next t) :
    (s.resetLine = true ∧ t = resetBlock s) ∨
    (s.resetLine = false ∧ s.engBusy = true ∧ ∃ i u, slotFrame? s = some (i, u) ∧ exec i u = .next t) ∨
    (s.resetLine = false ∧ s.engBusy = true ∧ slotFrame? s = none ∧ advance s = some t) ∨
    (s.resetLine = false ∧ s.engBusy = true ∧ slotFrame? s = none ∧ advance s = none ∧ t = s) ∨
    (s.resetLine = false ∧ s.engBusy = false ∧ s.inbox = [] ∧ t = s) ∨
    (s.resetLine = false ∧ s.engBusy = false ∧ ∃ w rest, s.inbox = w :: rest ∧
      ((∃ i, decodeOp w = .op i ∧ exec i { s with inbox := rest } = .next t) ∨
       (∃ opc, decodeOp w = .illegal opc ∧ t = illegalOperation { s with inbox := rest }))) := by
  unfold step fetch at h
  cases hreset : s.resetLine with
  | true => simp_all
  | false =>
    cases hbusy : s.engBusy with
    | true =>
      cases hslot : slotFrame? s with
      | some run => exact .inr (.inl ⟨rfl, rfl, run.1, run.2, rfl, by simpa [hreset, hbusy, hslot] using h⟩)
      | none => cases hadv : advance s <;> simp_all
    | false =>
      cases hinbox : s.inbox with
      | nil => simp_all
      | cons w rest => cases hdec : decodeOp w <;> simp_all

/-! ### Events put before the history -/

/-- The state with `past` put before its history. -/
@[simps] def behind (past : List Event) (s : State) : State := { s with history := past ++ s.history }

section
variable (past : List Event) (s : State)

@[simp] theorem emit_behind (e : Event) : emit e (behind past s) = behind past (emit e s) := by
  simp [emit, behind]

@[simp] theorem emitLog_behind (e : LogEvent) : emitLog e (behind past s) = behind past (emitLog e s) :=
  emit_behind past s _

@[simp] theorem emitLogs_behind (es : List LogEvent) :
    emitLogs es (behind past s) = behind past (emitLogs es s) := by
  simp [emitLogs, behind]

@[simp] theorem complete_behind : complete (behind past s) = behind past (complete s) := rfl

@[simp] theorem raise_behind (e : Err) : raise e (behind past s) = behind past (raise e s) := by
  unfold raise engFailure
  split <;> rfl

@[simp] theorem dropReply_behind : dropReply (behind past s) = behind past (dropReply s) := rfl

@[simp] theorem dropSeries_behind : dropSeries (behind past s) = behind past (dropSeries s) := rfl

@[simp] theorem dropBal_behind : dropBal (behind past s) = behind past (dropBal s) := rfl

@[simp] theorem clearSession_behind : clearSession (behind past s) = behind past (clearSession s) := rfl

@[simp] theorem hold_behind (i : Instr) : hold i (behind past s) = behind past (hold i s) := rfl

@[simp] theorem startExchange_behind (op : Running) (c : Byte) (x : List Byte) (n r : Byte) :
    startExchange op c x n r (behind past s) = behind past (startExchange op c x n r s) := rfl

@[simp] theorem storeSlot_behind (bs : List Byte) :
    storeSlot bs (behind past s) = behind past (storeSlot bs s) := rfl

@[simp] theorem storeSeries_behind (w count : Nat) :
    storeSeries w count (behind past s) = behind past (storeSeries w count s) :=
  emitLogs_behind past
    { s with series := (reassemble s.reply w count).series, expIdx := (reassemble s.reply w count).expIdx } _

@[simp] theorem pagePlan_behind (kind : PageKind) : pagePlan kind (behind past s) = pagePlan kind s := rfl

@[simp] theorem sessionCells_behind : sessionCells (behind past s) = sessionCells s := rfl

@[simp] theorem slotsTaken_behind : slotsTaken (behind past s) = slotsTaken s := rfl

@[simp] theorem slotWaiting_behind : slotWaiting (behind past s) = slotWaiting s := rfl

/-! A write to another field goes under the earlier events. -/

theorem behind_with_engBusy (b : Bool) :
    { behind past s with engBusy := b } = behind past { s with engBusy := b } := rfl

theorem behind_with_running (r : Option Running) :
    { behind past s with running := r } = behind past { s with running := r } := rfl

theorem behind_with_answers (as : List Answer) :
    { behind past s with answers := as } = behind past { s with answers := as } := rfl

theorem behind_with_lastDetail (d : Byte) :
    { behind past s with lastDetail := d } = behind past { s with lastDetail := d } := rfl

theorem behind_with_link (l : Bool) : { behind past s with link := l } = behind past { s with link := l } := rfl

theorem behind_with_resPages (n : Byte) :
    { behind past s with resPages := n } = behind past { s with resPages := n } := rfl

/-! #### The transitions of R150 and the link operations' calls -/

theorem checkStep_behind : checkStep (behind past s) = behind past (checkStep s) := by
  unfold checkStep
  simp only [behind_link, behind_params, behind_addrVariant, behind_xCmd, behind_xExtra, behind_xRest]
  split
  · rfl
  · split <;> rfl

theorem drainStep_behind (a : Answer) : drainStep a (behind past s) = behind past (drainStep a s) := by
  unfold drainStep
  simp only [dropReply_behind, emit_behind, emitLog_behind]
  split <;> rfl

theorem writeStep_behind (a : Answer) : writeStep a (behind past s) = behind past (writeStep a s) := by
  unfold writeStep
  simp only [behind_txbuf, emit_behind]
  split
  · rfl
  · split <;> rfl

@[simp] theorem endCollection_behind : endCollection (behind past s) = behind past (endCollection s) := by
  unfold endCollection
  rw [behind_reply]
  split <;> rfl

@[simp] theorem decodeSlot_behind (bs : List Byte) :
    decodeSlot bs (behind past s) = behind past (decodeSlot bs s) := by
  unfold decodeSlot
  rw [behind_xCmd]
  split <;> rfl

theorem slotStep_behind (a : Answer) : slotStep a (behind past s) = behind past (slotStep a s) := by
  unfold slotStep
  simp only [emit_behind, storeSlot_behind]
  simp only [behind_with_lastDetail, emitLog_behind, endCollection_behind, decodeSlot_behind]
  split
  · rfl
  · split
    · rfl
    · split <;> rfl

theorem backoffStep_behind : backoffStep (behind past s) = behind past (backoffStep s) := by
  unfold backoffStep
  rw [emit_behind]
  rfl

theorem clearFailedExchange_behind :
    clearFailedExchange (behind past s) = behind past (clearFailedExchange s) := by
  unfold clearFailedExchange
  rw [behind_running]
  split <;> rfl

theorem latchStatus_behind : latchStatus (behind past s) = behind past (latchStatus s) := by
  unfold latchStatus
  rw [behind_reply]
  split <;> rfl

theorem afterExchange_behind : afterExchange (behind past s) = behind past (afterExchange s) := by
  unfold afterExchange
  rw [behind_running]
  split
  · exact latchStatus_behind past s
  · exact storeSeries_behind past s _ _
  · exact storeSeries_behind past s _ _
  · rfl

theorem finishStep_behind (e : Option Err) : finishStep e (behind past s) = behind past (finishStep e s) := by
  cases e with
  | none => simp [finishStep, afterExchange_behind]
  | some err => simp [finishStep, clearFailedExchange_behind]

theorem openClosed_behind (a : Answer) : openClosed a (behind past s) = behind past (openClosed a s) := by
  unfold openClosed
  rw [emit_behind]
  rfl

theorem openOpened_behind (a : Answer) : openOpened a (behind past s) = behind past (openOpened a s) := by
  unfold openOpened
  simp only [behind_params, emit_behind, raise_behind]
  split <;> rfl

theorem closeClosed_behind (a : Answer) : closeClosed a (behind past s) = behind past (closeClosed a s) := by
  unfold closeClosed
  simp only [emit_behind, clearSession_behind, behind_with_link, raise_behind]
  split <;> rfl

/-! #### Runs -/

theorem withAnswer_behind {k : Answer → State → State}
    (hk : ∀ a t, k a (behind past t) = behind past (k a t)) :
    withAnswer k (behind past s) = (withAnswer k s).map (behind past) := by
  unfold withAnswer
  rw [behind_answers]
  split
  · rfl
  · rw [behind_with_answers, hk]
    rfl

theorem advance_behind : advance (behind past s) = (advance s).map (behind past) := by
  unfold advance
  rw [behind_fsm, behind_running, slotsTaken_behind]
  split
  · split
    · exact withAnswer_behind past s fun a t => openClosed_behind past t a
    · exact withAnswer_behind past s fun a t => openOpened_behind past t a
    · exact withAnswer_behind past s fun a t => closeClosed_behind past t a
    · rfl
  · exact congrArg some (checkStep_behind past s)
  · exact withAnswer_behind past s fun a t => drainStep_behind past t a
  · exact withAnswer_behind past s fun a t => writeStep_behind past t a
  · split
    · exact congrArg some (endCollection_behind past s)
    · exact withAnswer_behind past s fun a t => slotStep_behind past t a
  · exact congrArg some (backoffStep_behind past s)
  · exact congrArg some (finishStep_behind past s _)

theorem runFor_behind (n : Nat) : runFor n (behind past s) = behind past (runFor n s) := by
  induction n generalizing s with
  | zero => rfl
  | succ n ih =>
    simp only [runFor, advance_behind]
    cases advance s with
    | none => rfl
    | some t => exact ih t

@[simp] theorem settle_behind : settle (behind past s) = behind past (settle s) := runFor_behind past s _

/-! #### The instructions -/

theorem paginated_behind (kind : PageKind) (op : Byte → Running) (cmd count : Byte) :
    paginated kind op cmd count (behind past s) = behind past (paginated kind op cmd count s) := by
  unfold paginated
  simp only [behind_with_resPages, startExchange_behind, settle_behind, dropReply_behind, dropSeries_behind,
    raise_behind]
  rw [behind_sessionValid]
  split <;> rfl

/-- An operation whose body does not look at the history does not look at it at its acceptance either. -/
theorem accept_behind {i : Instr} {body : State → State}
    (hb : ∀ t, body (behind past t) = behind past (body t)) :
    accept i body (behind past s) = mapNext (behind past) (accept i body s) := by
  cases h : s.engBusy with
  | false => rw [accept_idle (s := s) h, accept_idle (s := behind past s) h, behind_with_engBusy, hb]; rfl
  | true => rw [accept_busy (s := s) h, accept_busy (s := behind past s) h, hold_behind]; rfl

theorem receiveFrame_behind (bytes : List Byte) :
    receiveFrame bytes (behind past s) = mapNext (behind past) (receiveFrame bytes s) := by
  unfold receiveFrame
  rw [slotWaiting_behind]
  split
  · exact congrArg _ (slotStep_behind past s _)
  · rfl

theorem execOpen_behind : execOpen (behind past s) = mapNext (behind past) (execOpen s) := by
  refine accept_behind past s fun t => ?_
  simp only [clearSession_behind, behind_with_running, settle_behind]
  rw [behind_link]
  split <;> rfl

theorem execClose_behind : execClose (behind past s) = mapNext (behind past) (execClose s) := by
  refine accept_behind past s fun t => ?_
  simp only [behind_with_running, settle_behind]
  rw [behind_link]
  split <;> rfl

theorem execCfgWrite_behind (variant retries : Byte) :
    execCfgWrite variant retries (behind past s) = mapNext (behind past) (execCfgWrite variant retries s) := by
  refine accept_behind past s fun t => ?_
  rw [raise_behind]
  split <;> rfl

theorem execChecksum_behind (bytes : List Byte) :
    execChecksum bytes (behind past s) = mapNext (behind past) (execChecksum bytes s) :=
  accept_behind past s fun _ => rfl

theorem execEncode_behind (cmd : Byte) (extra : List Byte) :
    execEncode cmd extra (behind past s) = mapNext (behind past) (execEncode cmd extra s) := by
  refine accept_behind past s fun t => ?_
  simp only [behind_params, behind_addrVariant, raise_behind]
  split <;> rfl

theorem execDecode_behind (expCmd : Byte) (frame : List Byte) :
    execDecode expCmd frame (behind past s) = mapNext (behind past) (execDecode expCmd frame s) := by
  refine accept_behind past s fun t => ?_
  simp only [raise_behind]
  split <;> rfl

theorem execSend_behind (cmd n r : Byte) (extra : List Byte) :
    execSend cmd n r extra (behind past s) = mapNext (behind past) (execSend cmd n r extra s) :=
  accept_behind past s fun t => by simp

theorem execReassemble_behind (w count : Byte) :
    execReassemble w count (behind past s) = mapNext (behind past) (execReassemble w count s) := by
  refine accept_behind past s fun t => ?_
  simp only [storeSeries_behind, dropSeries_behind, raise_behind]
  split <;> rfl

theorem execPlanPages_behind (kind : Byte) :
    execPlanPages kind (behind past s) = mapNext (behind past) (execPlanPages kind s) := by
  refine accept_behind past s fun t => ?_
  simp only [behind_sessionValid, pagePlan_behind, raise_behind]
  split
  · rfl
  · split <;> rfl

theorem execStatusQuery_behind :
    execStatusQuery (behind past s) = mapNext (behind past) (execStatusQuery s) :=
  accept_behind past s fun t => by simp

theorem execQueryCells_behind : execQueryCells (behind past s) = mapNext (behind past) (execQueryCells s) :=
  accept_behind past s fun t => paginated_behind past t _ _ _ _

theorem execQueryTemps_behind : execQueryTemps (behind past s) = mapNext (behind past) (execQueryTemps s) :=
  accept_behind past s fun t => paginated_behind past t _ _ _ _

theorem execQuery_behind (cmd : Byte) :
    execQuery cmd (behind past s) = mapNext (behind past) (execQuery cmd s) :=
  accept_behind past s fun t => by simp

theorem execSet_behind (cmd : Byte) (extra : List Byte) :
    execSet cmd extra (behind past s) = mapNext (behind past) (execSet cmd extra s) :=
  accept_behind past s fun t => by simp

theorem execDecodeBalancing_behind (p : Payload) :
    execDecodeBalancing p (behind past s) = mapNext (behind past) (execDecodeBalancing p s) := by
  refine accept_behind past s fun t => ?_
  simp only [behind_sessionValid, sessionCells_behind, dropBal_behind, raise_behind]
  split
  · split <;> rfl
  · rfl

theorem execDecodeFaults_behind (p : Payload) :
    execDecodeFaults p (behind past s) = mapNext (behind past) (execDecodeFaults p s) :=
  accept_behind past s fun _ => rfl

theorem exec_hostOp_behind {i : Instr} (hi : i.isHostOp = true) :
    exec i (behind past s) = mapNext (behind past) (exec i s) := by
  cases i with
  | openLink => exact execOpen_behind past s
  | closeLink => exact execClose_behind past s
  | cfgWrite variant retries => exact execCfgWrite_behind past s variant retries
  | checksum bytes => exact execChecksum_behind past s bytes
  | encode cmd extra => exact execEncode_behind past s cmd extra
  | decode expCmd frame => exact execDecode_behind past s expCmd frame
  | send cmd n r extra => exact execSend_behind past s cmd n r extra
  | reassemble w count => exact execReassemble_behind past s w count
  | planPages kind => exact execPlanPages_behind past s kind
  | statusQuery => exact execStatusQuery_behind past s
  | queryCells => exact execQueryCells_behind past s
  | queryTemps => exact execQueryTemps_behind past s
  | query cmd => exact execQuery_behind past s cmd
  | set cmd extra => exact execSet_behind past s cmd extra
  | decodeBalancing p => exact execDecodeBalancing_behind past s p
  | decodeFaults p => exact execDecodeFaults_behind past s p
  | _ => cases hi

/-- R8 for every instruction: the sixteen operations by their bodies, the thirteen frame rows as the slot they fill. -/
theorem exec_behind (i : Instr) : exec i (behind past s) = mapNext (behind past) (exec i s) := by
  cases hi : i.isHostOp with
  | true => exact exec_hostOp_behind past s hi
  | false =>
    obtain ⟨c, start, addr, p, ck, rfl⟩ := exists_wireInstr hi
    simp only [exec_wireInstr, behind_params]
    exact receiveFrame_behind past s _

end

/-- Settles O15: putting events before the history commutes with every shared operation, so with every transition, by
induction with every run of transitions, and so with every instruction. -/
theorem theHistoryIsNeverRead : Obligations.TheHistoryIsNeverRead := by
  intro i s past
  exact exec_behind past s i

/-! ### The parameters and the configuration -/

/-- The parameters of R3 and the two configuration registers (R23, R24). -/
def configuration (s : State) : Params × Variant × Byte := (s.params, s.addrVariant, s.retries)

theorem configuration_eq_iff {s t : State} :
    configuration t = configuration s ↔
      t.params = s.params ∧ t.addrVariant = s.addrVariant ∧ t.retries = s.retries := by
  simp [configuration]

section
variable (s : State)

@[simp] theorem complete_configuration : configuration (complete s) = configuration s := rfl

@[simp] theorem raise_configuration (e : Err) : configuration (raise e s) = configuration s := by
  simp [configuration]

/-! #### The transitions of R150 and the link operations' calls -/

theorem checkStep_configuration : configuration (checkStep s) = configuration s := by
  unfold checkStep
  split
  · rfl
  · split <;> rfl

theorem drainStep_configuration (a : Answer) : configuration (drainStep a s) = configuration s := by
  unfold drainStep
  dsimp only
  split <;> rfl

theorem writeStep_configuration (a : Answer) : configuration (writeStep a s) = configuration s := by
  unfold writeStep
  dsimp only
  split
  · rfl
  · split <;> rfl

theorem endCollection_configuration : configuration (endCollection s) = configuration s := by
  unfold endCollection
  split <;> rfl

theorem decodeSlot_configuration (bs : List Byte) : configuration (decodeSlot bs s) = configuration s := by
  unfold decodeSlot
  split <;> rfl

theorem slotStep_configuration (a : Answer) : configuration (slotStep a s) = configuration s := by
  unfold slotStep
  simp only [apply_ite configuration, endCollection_configuration, decodeSlot_configuration]
  split
  · rfl
  · split
    · rfl
    · split <;> rfl

theorem clearFailedExchange_configuration : configuration (clearFailedExchange s) = configuration s := by
  unfold clearFailedExchange
  split <;> rfl

theorem latchStatus_configuration : configuration (latchStatus s) = configuration s := by
  unfold latchStatus
  split <;> rfl

theorem afterExchange_configuration : configuration (afterExchange s) = configuration s := by
  unfold afterExchange
  split
  · exact latchStatus_configuration s
  all_goals rfl

theorem finishStep_configuration (e : Option Err) : configuration (finishStep e s) = configuration s := by
  cases e with
  | none => simp [finishStep, afterExchange_configuration]
  | some err => simp [finishStep, clearFailedExchange_configuration]

theorem openOpened_configuration (a : Answer) : configuration (openOpened a s) = configuration s := by
  unfold openOpened
  dsimp only
  split
  · exact raise_configuration (emit _ s) _
  · rfl

theorem closeClosed_configuration (a : Answer) : configuration (closeClosed a s) = configuration s := by
  unfold closeClosed
  dsimp only
  split
  · rw [raise_configuration]; rfl
  · rfl

/-- No transition changes the configuration (R293). -/
theorem advance_configuration {s t : State} (h : advance s = some t) : configuration t = configuration s := by
  rcases advance_cases h with ⟨-, rfl⟩ | ⟨-, rfl⟩ | ⟨e, -, rfl⟩ | ⟨-, -, rfl⟩ | ⟨a, rest, -, hcall⟩
  · exact checkStep_configuration s
  · rfl
  · exact finishStep_configuration s e
  · exact endCollection_configuration s
  · rcases hcall with ⟨-, rfl⟩ | ⟨-, rfl⟩ | ⟨-, -, rfl⟩ | ⟨-, -, rfl⟩ | ⟨-, -, rfl⟩ | ⟨-, -, rfl⟩
    · exact drainStep_configuration _ a
    · exact writeStep_configuration _ a
    · exact slotStep_configuration _ a
    · rfl
    · exact openOpened_configuration _ a
    · exact closeClosed_configuration _ a

@[simp] theorem settle_configuration : configuration (settle s) = configuration s :=
  settle_induct (P := fun t => configuration t = configuration s)
    (fun _ _ hkept hadv => (advance_configuration hadv).trans hkept) rfl

theorem paginated_configuration (kind : PageKind) (op : Byte → Running) (cmd count : Byte) :
    configuration (paginated kind op cmd count s) = configuration s := by
  unfold paginated
  split
  · exact settle_configuration _
  · exact raise_configuration (dropSeries (dropReply s)) _

/-! #### The instructions -/

theorem accept_configuration {i : Instr} {body : State → State} {s t : State}
    (h : accept i body s = .next t) (hbody : ∀ u, configuration (body u) = configuration u) :
    configuration t = configuration s :=
  accept_keeps h (fun _ _ => rfl) (fun _ => rfl) hbody

theorem receiveFrame_configuration {bytes : List Byte} {s t : State} (h : receiveFrame bytes s = .next t) :
    configuration t = configuration s := by
  rcases receiveFrame_cases bytes s with ⟨-, hnext⟩ | ⟨-, hnext⟩
  · rw [hnext] at h
    cases h
    exact slotStep_configuration s _
  · rw [hnext] at h
    cases h
    rfl

theorem execOpen_configuration {s t : State} (h : execOpen s = .next t) : configuration t = configuration s := by
  refine accept_configuration h fun u => ?_
  split
  · exact settle_configuration _
  · exact settle_configuration _

theorem execClose_configuration {s t : State} (h : execClose s = .next t) :
    configuration t = configuration s := by
  refine accept_configuration h fun u => ?_
  split
  · exact settle_configuration _
  · rfl

/-- CFG_WRITE writes the configuration registers and leaves the parameters (R213). -/
theorem execCfgWrite_params {variant retries : Byte} {s t : State} (h : execCfgWrite variant retries s = .next t) :
    t.params = s.params := by
  refine accept_keeps (view := State.params) h (fun _ _ => rfl) (fun _ => rfl) fun u => ?_
  split
  · exact raise_params _ _
  · rfl

theorem execChecksum_configuration {bytes : List Byte} {s t : State} (h : execChecksum bytes s = .next t) :
    configuration t = configuration s :=
  accept_configuration h fun _ => rfl

theorem execEncode_configuration {cmd : Byte} {extra : List Byte} {s t : State}
    (h : execEncode cmd extra s = .next t) : configuration t = configuration s := by
  refine accept_configuration h fun u => ?_
  split
  · rfl
  · exact raise_configuration u _

theorem execDecode_configuration {expCmd : Byte} {frame : List Byte} {s t : State}
    (h : execDecode expCmd frame s = .next t) : configuration t = configuration s := by
  refine accept_configuration h fun u => ?_
  split
  · rfl
  · exact raise_configuration u _

theorem execSend_configuration {cmd n r : Byte} {extra : List Byte} {s t : State}
    (h : execSend cmd n r extra s = .next t) : configuration t = configuration s :=
  accept_configuration h fun _ => settle_configuration _

theorem execReassemble_configuration {w count : Byte} {s t : State} (h : execReassemble w count s = .next t) :
    configuration t = configuration s := by
  refine accept_configuration h fun u => ?_
  split
  · rfl
  · exact raise_configuration (dropSeries u) _

theorem execPlanPages_configuration {kind : Byte} {s t : State} (h : execPlanPages kind s = .next t) :
    configuration t = configuration s := by
  refine accept_configuration h fun u => ?_
  split
  · exact raise_configuration u _
  · split
    · rfl
    · exact raise_configuration u _

theorem execStatusQuery_configuration {s t : State} (h : execStatusQuery s = .next t) :
    configuration t = configuration s :=
  accept_configuration h fun _ => settle_configuration _

theorem execQueryCells_configuration {s t : State} (h : execQueryCells s = .next t) :
    configuration t = configuration s :=
  accept_configuration h fun u => paginated_configuration u _ _ _ _

theorem execQueryTemps_configuration {s t : State} (h : execQueryTemps s = .next t) :
    configuration t = configuration s :=
  accept_configuration h fun u => paginated_configuration u _ _ _ _

theorem execQuery_configuration {cmd : Byte} {s t : State} (h : execQuery cmd s = .next t) :
    configuration t = configuration s :=
  accept_configuration h fun _ => settle_configuration _

theorem execSet_configuration {cmd : Byte} {extra : List Byte} {s t : State} (h : execSet cmd extra s = .next t) :
    configuration t = configuration s :=
  accept_configuration h fun _ => settle_configuration _

theorem execDecodeBalancing_configuration {p : Payload} {s t : State} (h : execDecodeBalancing p s = .next t) :
    configuration t = configuration s := by
  refine accept_configuration h fun u => ?_
  split
  · split
    · rfl
    · exact raise_configuration (dropBal u) _
  · exact raise_configuration (dropBal u) _

theorem execDecodeFaults_configuration {p : Payload} {s t : State} (h : execDecodeFaults p s = .next t) :
    configuration t = configuration s :=
  accept_configuration h fun _ => rfl

/-- No instruction but CFG_WRITE changes the parameters or the configuration (R293). -/
theorem exec_configuration {i : Instr} {s t : State} (hi : ∀ variant retries, i ≠ .cfgWrite variant retries)
    (h : exec i s = .next t) : configuration t = configuration s := by
  cases hop : i.isHostOp with
  | false =>
    obtain ⟨c, start, addr, p, ck, rfl⟩ := exists_wireInstr hop
    rw [exec_wireInstr] at h
    exact receiveFrame_configuration h
  | true =>
    cases i with
    | openLink => exact execOpen_configuration h
    | closeLink => exact execClose_configuration h
    | cfgWrite variant retries => exact absurd rfl (hi variant retries)
    | checksum bytes => exact execChecksum_configuration h
    | encode cmd extra => exact execEncode_configuration h
    | decode expCmd frame => exact execDecode_configuration h
    | send cmd n r extra => exact execSend_configuration h
    | reassemble w count => exact execReassemble_configuration h
    | planPages kind => exact execPlanPages_configuration h
    | statusQuery => exact execStatusQuery_configuration h
    | queryCells => exact execQueryCells_configuration h
    | queryTemps => exact execQueryTemps_configuration h
    | query cmd => exact execQuery_configuration h
    | set cmd extra => exact execSet_configuration h
    | decodeBalancing p => exact execDecodeBalancing_configuration h
    | decodeFaults p => exact execDecodeFaults_configuration h
    | _ => cases hop

/-- No instruction changes the parameters (R3). -/
theorem exec_params {i : Instr} {s t : State} (h : exec i s = .next t) : t.params = s.params := by
  by_cases hi : ∃ variant retries, i = .cfgWrite variant retries
  · obtain ⟨variant, retries, rfl⟩ := hi
    exact execCfgWrite_params h
  · refine congrArg Prod.fst (exec_configuration (fun variant retries e => ?_) h)
    exact hi ⟨variant, retries, e⟩

/-! #### Steps -/

/-- A step without reset that changes the configuration takes a CFG_WRITE word from the host interface of a block that is
not busy (R293). -/
theorem step_changes_configuration {s t : State} (hreset : s.resetLine = false) (h : step s = .next t)
    (hchange : configuration t ≠ configuration s) :
    s.engBusy = false ∧ ∃ w rest variant retries, s.inbox = w :: rest ∧
      decodeOp w = .op (.cfgWrite variant retries) := by
  rcases step_cases h with ⟨hr, -⟩ | ⟨-, -, i, u, hslot, hexec⟩ | ⟨-, -, -, hadv⟩ | ⟨-, -, -, -, rfl⟩ |
    ⟨-, -, -, rfl⟩ | ⟨-, hidle, w, rest, hinbox, ⟨i, hdec, hexec⟩ | ⟨opc, -, rfl⟩⟩
  · simp [hreset] at hr
  · obtain ⟨c, start, addr, p, ck, a, rest, rfl, -, -, -, -, rfl⟩ := slotFrame_some hslot
    exact absurd (exec_configuration (fun variant retries => by cases c <;> nofun) hexec) hchange
  · exact absurd (advance_configuration hadv) hchange
  · exact absurd rfl hchange
  · exact absurd rfl hchange
  · by_cases hi : ∃ variant retries, i = .cfgWrite variant retries
    · obtain ⟨variant, retries, rfl⟩ := hi
      exact ⟨hidle, w, rest, variant, retries, hinbox, hdec⟩
    · exact absurd (exec_configuration (fun variant retries e => hi ⟨variant, retries, e⟩) hexec) hchange
  · exact absurd (raise_configuration _ _) hchange

end

/-- Settles O29: every transition and every operation body keeps the configuration, CFG_WRITE's excepted, and of the
things a step can do only a word of an idle block can be a CFG_WRITE. -/
theorem onlyCfgWriteChangesTheConfiguration : Obligations.OnlyCfgWriteChangesTheConfiguration := by
  refine ⟨fun i s t h => ⟨exec_params h, fun hi => ?_⟩, fun s t hreset h hchange => ?_⟩
  · exact (configuration_eq_iff.mp (exec_configuration hi h)).2
  · refine step_changes_configuration hreset h fun hkept => ?_
    obtain ⟨-, hvariant, hretries⟩ := configuration_eq_iff.mp hkept
    exact hchange.elim (· hvariant) (· hretries)

end Sys2Proof.Machine

/-! PROOFS. What one transition and one accepted operation write, each said once as a relation, and the induction over
steps that every invariant of this part is proved with. -/

namespace Sys2Proof.Machine

/-! ### One transition, as the fields it writes -/

/-- What one transition of the running operation makes of `s`, field by field: the rows of R150 and the answers to the link
operations' calls. The answers left and the history after it are free where the transition takes an answer. -/
inductive Transition (s : State) : State → Prop
  /-- CHECK refuses the exchange (R161, R268). -/
  | notSent (e : Err) : s.fsm = .check → e = .notOpen ∨ e = .encodingError →
      Transition s { s with fsm := .finish (some e) }
  /-- CHECK lets the exchange start (R150). -/
  | checked (frame : Frame) : s.fsm = .check → s.link = true →
      Transition s { s with txbuf := frame, attempt := 1, fsm := .drain }
  /-- The drain has returned (R153). -/
  | drained (answers : List Answer) (history : List Event) : s.fsm = .drain →
      Transition s { s with answers, history, reply := [], fsm := .write }
  /-- The write has sent the whole frame (R154). -/
  | written (answers : List Answer) (history : List Event) : s.fsm = .write →
      Transition s { s with answers, history, slot := 1, slotCarry := false, lastDetail := 0, fsm := .collect }
  /-- The write has failed (R154, R158, R165). -/
  | writeFailed (cause : Err) (count : Byte) (answers : List Answer) (history : List Event) : s.fsm = .write →
      cause = .transportError ∨ cause = .writeError →
      Transition s (failAttempt cause 0 count { s with answers, history })
  /-- Every slot is taken (R150). -/
  | slotsDone : s.fsm = .collect → slotsTaken s = true → Transition s (endCollection s)
  /-- A read has ended the collection (R156, R165). -/
  | readEnded (detail : Detail) (bytes : List Byte) (answers : List Answer) (history : List Event) :
      s.fsm = .collect → slotsTaken s = false → bytes.length ≤ 13 →
      Transition s (endCollection { storeSlot bytes { s with answers, history } with lastDetail := detailCode detail })
  /-- A valid frame has filled its slot (R157). -/
  | slotFilled (p : Payload) (bytes : List Byte) (answers : List Answer) (history : List Event) :
      s.fsm = .collect → slotsTaken s = false → bytes.length ≤ 13 →
      Transition s (takeSlot { storeSlot bytes { s with answers, history } with reply := s.reply ++ [p] })
  /-- An invalid frame has used up its slot (R157, R167). -/
  | slotWasted (detail : Detail) (bytes : List Byte) (answers : List Answer) (history : List Event) :
      s.fsm = .collect → slotsTaken s = false → bytes.length ≤ 13 →
      Transition s (takeSlot { storeSlot bytes { s with answers, history } with lastDetail := detailCode detail })
  /-- The backoff is over (R158). -/
  | backedOff (history : List Event) : s.fsm = .backoff →
      Transition s { s with history, attempt := s.attempt + 1, fsm := .drain }
  /-- The operation ends with the exchange's error (R262, R263). -/
  | failed (e : Err) (series : List Int) : s.fsm = .finish (some e) → series = s.series ∨ series = [] →
      Transition s (raise e { s with reply := [], series })
  /-- The operation ends with the exchange's success, and has no last step of its own (R210). -/
  | ended : s.fsm = .finish none → Transition s (complete s)
  /-- STATUS_QUERY latches the first reply (R214). -/
  | latched (p : Payload) : s.fsm = .finish none → s.running = some .statusQuery →
      Transition s (complete { s with sessionStatus := p, sessionValid := true })
  /-- A paginated query reassembles its pages (R216, R217). -/
  | reassembled (w : Nat) (count : Byte) : s.fsm = .finish none → w = 1 ∨ w = 2 →
      Transition s (complete (storeSeries w count.toNat s))
  /-- OPEN has closed the link and goes on to open it (R211). -/
  | reopening (answers : List Answer) (history : List Event) : s.fsm = .idle → s.running = some .openClosing →
      Transition s (clearSession { s with answers, history, link := false, running := some .openOpening })
  /-- OPEN has opened the link (R211). -/
  | opened (answers : List Answer) (history : List Event) : s.fsm = .idle → s.running = some .openOpening →
      Transition s (complete { s with answers, history, link := true })
  /-- OPEN has failed to open the link (R211). -/
  | openFailed (answers : List Answer) (history : List Event) : s.fsm = .idle → s.running = some .openOpening →
      Transition s (raise .transportError { s with answers, history })
  /-- CLOSE has closed the link (R212). -/
  | closed (answers : List Answer) (history : List Event) : s.fsm = .idle → s.running = some .closing →
      Transition s (complete (clearSession { s with answers, history, link := false }))
  /-- CLOSE's call has reported an error, and the link is closed (R212). -/
  | closeFailed (answers : List Answer) (history : List Event) : s.fsm = .idle → s.running = some .closing →
      Transition s (raise .transportError (clearSession { s with answers, history, link := false }))

theorem checkStep_transition {s : State} (hf : s.fsm = .check) : Transition s (checkStep s) := by
  unfold checkStep
  split
  · exact .notSent _ hf (.inl rfl)
  · rename_i hlink
    split
    · rename_i e he
      exact .notSent _ hf (.inr (codecEncode_error he).1)
    · exact .checked _ hf (by simpa using hlink)

theorem drainStep_transition {s : State} (a : Answer) (rest : List Answer) (hf : s.fsm = .drain) :
    Transition s (drainStep a { s with answers := rest }) := by
  unfold drainStep
  cases a.err with
  | false => exact .drained _ _ hf
  | true => exact .drained _ _ hf

theorem writeStep_transition {s : State} (a : Answer) (rest : List Answer) (hf : s.fsm = .write) :
    Transition s (writeStep a { s with answers := rest }) := by
  unfold writeStep
  dsimp only
  split
  · exact .writeFailed _ _ _ _ hf (.inl rfl)
  · split
    · exact .writeFailed _ _ _ _ hf (.inr rfl)
    · exact .written _ _ hf

/-- A read's bytes are at most 13 (R66). -/
theorem readBytes_length_le (a : Answer) : (readBytes a).length ≤ 13 := List.length_take_le _ _

/-! #### A slot's answer, by case (R155 to R157, R165) -/

/-- The state once a slot's answer is stored and its read is in the history (R155). -/
def readSlot (a : Answer) (s : State) : State := storeSlot (readBytes a) { s with history := s.history ++ [readEvent a] }

theorem emitLog_readSlot (e : LogEvent) (a : Answer) (s : State) :
    emitLog e (readSlot a s) =
      storeSlot (readBytes a) { s with history := s.history ++ [readEvent a] ++ [.log e] } := rfl

theorem slotStep_error {a : Answer} (herr : a.err = true) (s : State) :
    slotStep a s = endCollection { readSlot a s with lastDetail := detailCode .readError } := by
  simp only [slotStep, herr, if_true]
  rw [readSlot, readEvent, herr]
  rfl

theorem slotStep_noData {a : Answer} (herr : a.err = false) (hlen : (readBytes a).length = 0) (s : State) :
    slotStep a s = endCollection { readSlot a s with lastDetail := detailCode .noData } := by
  simp only [slotStep, herr, hlen, if_true, Bool.false_eq_true, if_false]
  rw [readSlot, readEvent, herr]
  rfl

theorem slotStep_short {a : Answer} (herr : a.err = false) (hpos : (readBytes a).length ≠ 0)
    (hlen : (readBytes a).length < 13) (s : State) :
    slotStep a s = endCollection
      { emitLog (.shortRead (readBytes a).length) (readSlot a s) with lastDetail := detailCode .shortRead } := by
  simp only [slotStep, herr, hpos, hlen, if_true, Bool.false_eq_true, if_false]
  rw [readSlot, readEvent, herr]
  rfl

theorem slotStep_frame {a : Answer} (herr : a.err = false) (hlen : ¬ (readBytes a).length < 13) (s : State) :
    slotStep a s = decodeSlot (readBytes a) (readSlot a s) := by
  have hpos : (readBytes a).length ≠ 0 := by omega
  simp only [slotStep, herr, hpos, hlen, Bool.false_eq_true, if_false]
  rw [readSlot, readEvent, herr]
  rfl

/-- A slot's frame is collected, or leaves its detail; either way it uses up the slot (R157, R167). -/
theorem decodeSlot_cases (bytes : List Byte) (s : State) :
    (∃ p, decodeSlot bytes s = takeSlot { s with reply := s.reply ++ [p] }) ∨
    (∃ detail, decodeSlot bytes s = takeSlot { s with lastDetail := detailCode detail }) := by
  unfold decodeSlot
  split
  · exact .inl ⟨_, rfl⟩
  · exact .inr ⟨_, rfl⟩

theorem slotStep_transition {s : State} (a : Answer) (rest : List Answer) (hf : s.fsm = .collect)
    (hs : slotsTaken s = false) : Transition s (slotStep a { s with answers := rest }) := by
  have hbytes := readBytes_length_le a
  by_cases herr : a.err = true
  · rw [slotStep_error herr]
    exact .readEnded .readError _ _ _ hf hs hbytes
  · rw [Bool.not_eq_true] at herr
    by_cases hzero : (readBytes a).length = 0
    · rw [slotStep_noData herr hzero]
      exact .readEnded .noData _ _ _ hf hs hbytes
    · by_cases hlen : (readBytes a).length < 13
      · rw [slotStep_short herr hzero hlen, emitLog_readSlot]
        exact .readEnded .shortRead _ _ _ hf hs hbytes
      · rw [slotStep_frame herr hlen]
        rcases decodeSlot_cases (readBytes a) (readSlot a { s with answers := rest }) with ⟨p, hp⟩ | ⟨detail, hd⟩
        · rw [hp]
          exact .slotFilled p _ _ _ hf hs hbytes
        · rw [hd]
          exact .slotWasted detail _ _ _ hf hs hbytes

theorem finishStep_transition {s : State} (e : Option Err) (hf : s.fsm = .finish e) :
    Transition s (finishStep e s) := by
  cases e with
  | some err =>
    unfold finishStep clearFailedExchange
    dsimp only
    split
    · exact .failed _ _ hf (.inr rfl)
    · exact .failed _ _ hf (.inr rfl)
    · exact .failed _ _ hf (.inl rfl)
  | none =>
    unfold finishStep afterExchange
    dsimp only
    split
    · rename_i hrun
      unfold latchStatus
      split
      · exact .ended hf
      · exact .latched _ hf hrun
    · exact .reassembled _ _ hf (.inr rfl)
    · exact .reassembled _ _ hf (.inl rfl)
    · exact .ended hf

theorem openOpened_transition {s : State} (a : Answer) (rest : List Answer) (hf : s.fsm = .idle)
    (hrun : s.running = some .openOpening) : Transition s (openOpened a { s with answers := rest }) := by
  unfold openOpened
  dsimp only
  split
  · exact .openFailed _ _ hf hrun
  · exact .opened _ _ hf hrun

theorem closeClosed_transition {s : State} (a : Answer) (rest : List Answer) (hf : s.fsm = .idle)
    (hrun : s.running = some .closing) : Transition s (closeClosed a { s with answers := rest }) := by
  unfold closeClosed
  dsimp only
  split
  · exact .closeFailed _ _ hf hrun
  · exact .closed _ _ hf hrun

/-- Every transition is one of these. -/
theorem advance_transition {s t : State} (h : advance s = some t) : Transition s t := by
  rcases advance_cases h with ⟨hf, rfl⟩ | ⟨hf, rfl⟩ | ⟨e, hf, rfl⟩ | ⟨hf, hs, rfl⟩ | ⟨a, rest, -, hcall⟩
  · exact checkStep_transition hf
  · exact .backedOff _ hf
  · exact finishStep_transition e hf
  · exact .slotsDone hf hs
  · rcases hcall with ⟨hf, rfl⟩ | ⟨hf, rfl⟩ | ⟨hf, hs, rfl⟩ | ⟨hf, hrun, rfl⟩ | ⟨hf, hrun, rfl⟩ | ⟨hf, hrun, rfl⟩
    · exact drainStep_transition a rest hf
    · exact writeStep_transition a rest hf
    · exact slotStep_transition a rest hf hs
    · exact .reopening _ _ hf hrun
    · exact openOpened_transition a rest hf hrun
    · exact closeClosed_transition a rest hf hrun

/-! ### One accepted operation, as the fields it writes -/

/-- What an operation accepted in `s` makes of it: an error, an end with the registers it wrote, or a run of transitions
from where it starts. The result registers that no invariant is about are free. -/
inductive Executed (s : State) : State → Prop
  /-- An error of the operation itself, with the lengths R263 clears. -/
  | refused (e : Err) (reply : List Payload) (series : List Int) (bal : List Bool) :
      errCode e ∈ errCodes → e ≠ .exchangeFailed → reply = s.reply ∨ reply = [] → series = s.series ∨ series = [] →
      bal = s.bal ∨ bal = [] → Executed s (raise e { s with reply, series, bal })
  /-- CHECKSUM, ENCODE, DECODE and PLAN_PAGES each write one of these (R120 to R122, R190). -/
  | computed (resChecksum : Byte) (txbuf : Frame) (resPayload : Payload) (resPages : Byte) :
      Executed s (complete { s with resChecksum, txbuf, resPayload, resPages })
  /-- CFG_WRITE (R213). -/
  | configured (v : Variant) (r : Byte) :
      Executed s (complete { s with addrVariant := v, retries := clampRetries r })
  /-- REASSEMBLE (R180). -/
  | reassembled (w : Nat) (count : Byte) : w = 1 ∨ w = 2 → Executed s (complete (storeSeries w count.toNat s))
  /-- DECODE_BALANCING (R241). -/
  | balanced (p : Payload) (cells : Nat) (flags : List Bool) : balancing p cells = .ok flags →
      Executed s (complete { s with bal := flags })
  /-- DECODE_FAULTS (R245). -/
  | faulted (p : Payload) : Executed s (complete { s with fault := faults s.params.faultTable p })
  /-- OPEN on an open link (R211). -/
  | reopening : s.link = true → Executed s (settle { s with running := some .openClosing })
  /-- OPEN on a closed link (R211). -/
  | opening : s.link = false → Executed s (settle (clearSession { s with running := some .openOpening }))
  /-- CLOSE on an open link (R212). -/
  | closing : s.link = true → Executed s (settle { s with running := some .closing })
  /-- CLOSE on a closed link (R212). -/
  | closed : s.link = false → Executed s (complete (clearSession s))
  /-- The six exchange operations (R210). -/
  | exchange (op : Running) (cmd : Byte) (extra : List Byte) (n r resPages : Byte) :
      Executed s (settle (startExchange op cmd extra n r { s with resPages }))

/-- An error that clears nothing. -/
theorem executed_raise {s : State} {e : Err} (hc : errCode e ∈ errCodes) (hx : e ≠ .exchangeFailed) :
    Executed s (raise e s) :=
  .refused e s.reply s.series s.bal hc hx (.inl rfl) (.inl rfl) (.inl rfl)

theorem codecDecode_error_code {bytes : List Byte} {exp : Byte} {e : Err} (h : codecDecode bytes exp = .error e) :
    errCode e ∈ errCodes ∧ e ≠ .exchangeFailed := by
  unfold codecDecode at h
  split at h
  · cases h; decide
  · split at h
    · cases h; decide
    · split at h
      · cases h; decide
      · cases h

theorem balancing_error {p : Payload} {cells : Nat} {e : Err} (h : balancing p cells = .error e) :
    e = .bitIndexRange := by
  unfold balancing at h
  split at h
  · exact (Except.error.inj h).symm
  · cases h

theorem paginated_executed (kind : PageKind) (op : Byte → Running) (cmd count : Byte) (s : State) :
    Executed s (paginated kind op cmd count s) := by
  unfold paginated
  split
  · exact .exchange _ _ _ _ _ _
  · exact .refused _ [] [] s.bal (by decide) (by decide) (.inr rfl) (.inr rfl) (.inl rfl)

/-- An idle block's operation does one of these, with `ENG.BUSY` set (R35). -/
theorem accept_executed {i : Instr} {body : State → State} {s t : State} (hbusy : s.engBusy = false)
    (h : accept i body s = .next t) (hbody : ∀ u, Executed u (body u)) : Executed { s with engBusy := true } t := by
  rw [accept_idle hbusy] at h
  cases h
  exact hbody _

section
variable {s t : State} (hbusy : s.engBusy = false)
include hbusy

theorem execOpen_executed (h : execOpen s = .next t) : Executed { s with engBusy := true } t := by
  refine accept_executed hbusy h fun u => ?_
  split
  · exact .reopening ‹_›
  · exact .opening (by simpa using ‹¬ u.link = true›)

theorem execClose_executed (h : execClose s = .next t) : Executed { s with engBusy := true } t := by
  refine accept_executed hbusy h fun u => ?_
  split
  · exact .closing ‹_›
  · exact .closed (by simpa using ‹¬ u.link = true›)

theorem execCfgWrite_executed {variant retries : Byte} (h : execCfgWrite variant retries s = .next t) :
    Executed { s with engBusy := true } t := by
  refine accept_executed hbusy h fun u => ?_
  split
  · exact executed_raise (by decide) (by decide)
  · exact .configured _ _

theorem execChecksum_executed {bytes : List Byte} (h : execChecksum bytes s = .next t) :
    Executed { s with engBusy := true } t :=
  accept_executed hbusy h fun u => .computed _ u.txbuf u.resPayload u.resPages

theorem execEncode_executed {cmd : Byte} {extra : List Byte} (h : execEncode cmd extra s = .next t) :
    Executed { s with engBusy := true } t := by
  refine accept_executed hbusy h fun u => ?_
  split
  · exact .computed u.resChecksum _ u.resPayload u.resPages
  · rename_i e he
    obtain ⟨rfl, -⟩ := codecEncode_error he
    exact executed_raise (by decide) (by decide)

theorem execDecode_executed {expCmd : Byte} {frame : List Byte} (h : execDecode expCmd frame s = .next t) :
    Executed { s with engBusy := true } t := by
  refine accept_executed hbusy h fun u => ?_
  split
  · exact .computed u.resChecksum u.txbuf _ u.resPages
  · rename_i e he
    obtain ⟨hcode, hexch⟩ := codecDecode_error_code he
    exact executed_raise hcode hexch

theorem execSend_executed {cmd n r : Byte} {extra : List Byte} (h : execSend cmd n r extra s = .next t) :
    Executed { s with engBusy := true } t :=
  accept_executed hbusy h fun u => .exchange _ _ _ _ _ u.resPages

theorem execReassemble_executed {w count : Byte} (h : execReassemble w count s = .next t) :
    Executed { s with engBusy := true } t := by
  refine accept_executed hbusy h fun u => ?_
  split
  · rename_i hw
    exact .reassembled _ _ (hw.imp (congrArg BitVec.toNat) (congrArg BitVec.toNat))
  · exact .refused _ u.reply [] u.bal (by decide) (by decide) (.inl rfl) (.inr rfl) (.inl rfl)

theorem execPlanPages_executed {kind : Byte} (h : execPlanPages kind s = .next t) :
    Executed { s with engBusy := true } t := by
  refine accept_executed hbusy h fun u => ?_
  split
  · exact executed_raise (by decide) (by decide)
  · split
    · exact .computed u.resChecksum u.txbuf u.resPayload _
    · exact executed_raise (by decide) (by decide)

theorem execStatusQuery_executed (h : execStatusQuery s = .next t) : Executed { s with engBusy := true } t :=
  accept_executed hbusy h fun u => .exchange _ _ _ _ _ u.resPages

theorem execQueryCells_executed (h : execQueryCells s = .next t) : Executed { s with engBusy := true } t :=
  accept_executed hbusy h fun u => paginated_executed _ _ _ _ u

theorem execQueryTemps_executed (h : execQueryTemps s = .next t) : Executed { s with engBusy := true } t :=
  accept_executed hbusy h fun u => paginated_executed _ _ _ _ u

theorem execQuery_executed {cmd : Byte} (h : execQuery cmd s = .next t) : Executed { s with engBusy := true } t :=
  accept_executed hbusy h fun u => .exchange _ _ _ _ _ u.resPages

theorem execSet_executed {cmd : Byte} {extra : List Byte} (h : execSet cmd extra s = .next t) :
    Executed { s with engBusy := true } t :=
  accept_executed hbusy h fun u => .exchange _ _ _ _ _ u.resPages

theorem execDecodeBalancing_executed {p : Payload} (h : execDecodeBalancing p s = .next t) :
    Executed { s with engBusy := true } t := by
  refine accept_executed hbusy h fun u => ?_
  split
  · split
    · exact .balanced _ _ _ ‹_›
    · rename_i e he
      rw [balancing_error he]
      exact .refused _ u.reply u.series [] (by decide) (by decide) (.inl rfl) (.inl rfl) (.inr rfl)
  · exact .refused _ u.reply u.series [] (by decide) (by decide) (.inl rfl) (.inl rfl) (.inr rfl)

theorem execDecodeFaults_executed {p : Payload} (h : execDecodeFaults p s = .next t) :
    Executed { s with engBusy := true } t :=
  accept_executed hbusy h fun _ => .faulted p

/-- What the operations do on a block that is not busy. -/
theorem exec_executed {i : Instr} (hi : i.isHostOp = true) (h : exec i s = .next t) :
    Executed { s with engBusy := true } t := by
  cases i with
  | openLink => exact execOpen_executed hbusy h
  | closeLink => exact execClose_executed hbusy h
  | cfgWrite variant retries => exact execCfgWrite_executed hbusy h
  | checksum bytes => exact execChecksum_executed hbusy h
  | encode cmd extra => exact execEncode_executed hbusy h
  | decode expCmd frame => exact execDecode_executed hbusy h
  | send cmd n r extra => exact execSend_executed hbusy h
  | reassemble w count => exact execReassemble_executed hbusy h
  | planPages kind => exact execPlanPages_executed hbusy h
  | statusQuery => exact execStatusQuery_executed hbusy h
  | queryCells => exact execQueryCells_executed hbusy h
  | queryTemps => exact execQueryTemps_executed hbusy h
  | query cmd => exact execQuery_executed hbusy h
  | set cmd extra => exact execSet_executed hbusy h
  | decodeBalancing p => exact execDecodeBalancing_executed hbusy h
  | decodeFaults p => exact execDecodeFaults_executed hbusy h
  | _ => cases hi

end

/-! ### One step -/

/-- A slot reads its answer's bytes and error flag alone (R155, R156). -/
theorem slotStep_congr {a b : Answer} (herr : a.err = b.err) (hbytes : readBytes a = readBytes b) (s : State) :
    slotStep a s = slotStep b s := by
  simp only [slotStep, herr, hbytes]

/-- A frame row that a step runs is the running operation's transition (R155, log entry 10). -/
theorem slotFrame_exec_advance {s t u : State} {i : Instr} (h : slotFrame? s = some (i, u))
    (hexec : exec i u = .next t) : advance s = some t := by
  obtain ⟨c, start, addr, p, ck, a, rest, rfl, hwait, hanswers, herr, hbytes, rfl⟩ := slotFrame_some h
  obtain ⟨hfsm, hslots⟩ : s.fsm = .collect ∧ slotsTaken s = false := by simp_all [slotWaiting]
  rw [exec_wireInstr, receiveFrame, if_pos (by exact hwait)] at hexec
  cases hexec
  rw [advance_slot hfsm hslots hanswers]
  refine congrArg some (slotStep_congr herr ?_ _)
  rw [hbytes]
  rfl

/-- A frame row leaves a block that is not busy as it is (R276). -/
theorem exec_frame_idle {i : Instr} {s t : State} (hi : i.isHostOp = false) (hbusy : s.engBusy = false)
    (h : exec i s = .next t) : t = s := by
  obtain ⟨c, start, addr, p, ck, rfl⟩ := exists_wireInstr hi
  rw [exec_wireInstr, receiveFrame, if_neg (by simp [slotWaiting, hbusy])] at h
  exact (Host.Outcome.next.inj h).symm

/-- `raise` sets `ENG.BUSY` itself. -/
theorem raise_with_engBusy (e : Err) (s : State) (b : Bool) : raise e { s with engBusy := b } = raise e s := by
  unfold raise engFailure
  split <;> rfl

/-- The induction that every invariant of a step is proved by: what reset establishes, and every transition, every accepted
operation and the taking of a word keep, every step keeps. -/
theorem step_keeps {P : State → Prop} (hreset : ∀ s, P (resetBlock s))
    (hword : ∀ s words, P s → P { s with inbox := words })
    (hadvance : ∀ s t, P s → Transition s t → P t)
    (hexec : ∀ s t, s.engBusy = false → P s → Executed { s with engBusy := true } t → P t)
    {s t : State} (hs : P s) (h : step s = .next t) : P t := by
  rcases step_cases h with ⟨-, rfl⟩ | ⟨-, -, i, u, hslot, hframe⟩ | ⟨-, -, -, hadv⟩ | ⟨-, -, -, -, rfl⟩ |
    ⟨-, -, -, rfl⟩ | ⟨-, hbusy, w, words, -, ⟨i, -, hop⟩ | ⟨opc, -, rfl⟩⟩
  · exact hreset s
  · exact hadvance s t hs (advance_transition (slotFrame_exec_advance hslot hframe))
  · exact hadvance s t hs (advance_transition hadv)
  · exact hs
  · exact hs
  · have hu := hword s words hs
    cases hi : i.isHostOp with
    | true =>
      exact hexec { s with inbox := words } t hbusy hu (exec_executed (s := { s with inbox := words }) hbusy hi hop)
    | false =>
      rw [exec_frame_idle (s := { s with inbox := words }) hi hbusy hop]
      exact hu
  · refine hexec { s with inbox := words } _ hbusy (hword s words hs) ?_
    rw [illegalOperation, ← raise_with_engBusy _ { s with inbox := words } true]
    exact executed_raise (by decide) (by decide)

/-- What every transition keeps, a run keeps. -/
theorem settle_keeps {P : State → Prop} (hadvance : ∀ s t, P s → Transition s t → P t) {s : State} (hs : P s) :
    P (settle s) :=
  settle_induct (fun _ _ h hadv => hadvance _ _ h (advance_transition hadv)) hs

end Sys2Proof.Machine

/-! PROOFS. The reset state's values, and three invariants of every step: the busy flag (spec/10_state.md R40), the session
(R30, spec/43_session_queries.md R223) and the engine status codes (R35, spec/60_exceptions.md R260, R266, R267). -/

namespace Sys2Proof.Machine

/-! ### Reset -/

/-- Settles O13: the reset state is written out in the model. -/
theorem resetValues : Obligations.ResetValues := by
  unfold Obligations.ResetValues
  decide

theorem resetBlock_invBusy (s : State) : InvBusy (resetBlock s) := by
  unfold InvBusy
  simp [resetBlock, State.reset]

theorem resetBlock_invSession (s : State) : InvSession (resetBlock s) := ⟨fun _ => rfl, fun _ => rfl, nofun⟩

theorem resetBlock_invEngine (s : State) : InvEngine (resetBlock s) := by
  refine ⟨?_, ?_, ?_, ?_, ?_, ?_, ?_, nofun, nofun⟩
  all_goals simp [resetBlock, State.reset, errCodes]

theorem resetBlock_invExchange (s : State) : InvExchange (resetBlock s) := by
  refine ⟨by simp [resetBlock, State.reset, Config.retriesDefault], by simp [resetBlock, State.reset], nofun, ?_, nofun,
    nofun, nofun, nofun, nofun, by simp [resetBlock, State.reset]⟩
  simp [resetBlock, State.reset]

theorem resetBlock_invBuffers (s : State) : InvBuffers (resetBlock s) := by
  unfold InvBuffers
  simp [resetBlock, State.reset]

/-- Settles O55: each invariant holds of a reset block, and the reset state is one. -/
theorem resetMeetsTheInvariants : Obligations.ResetMeetsTheInvariants :=
  ⟨resetBlock_invBusy State.reset, resetBlock_invSession State.reset, resetBlock_invEngine State.reset,
    resetBlock_invExchange State.reset, resetBlock_invBuffers State.reset⟩

/-! ### Where a collection ends -/

/-- A collection's end fails the attempt or finishes with the replies it has (R158, R160). -/
theorem endCollection_cases (s : State) :
    (s.reply = [] ∧ endCollection s = failAttempt .noValidFrames s.lastDetail 0 s) ∨
    (s.reply ≠ [] ∧ endCollection s = { s with fsm := .finish none }) := by
  by_cases h : s.reply = []
  · exact .inl ⟨h, endCollection_empty h⟩
  · exact .inr ⟨h, endCollection_some h⟩

/-- A failed attempt backs off, or finishes with `ExchangeFailed` (R158). -/
theorem failAttempt_fsm_cases (e : Err) (d w : Byte) (s : State) :
    (s.attempt < s.rEff ∧ (failAttempt e d w s).fsm = .backoff) ∨
    (failAttempt e d w s).fsm = .finish (some .exchangeFailed) := by
  rw [failAttempt_fsm]
  split
  · exact .inl ⟨‹_›, rfl⟩
  · exact .inr rfl

/-! ### The busy flag -/

theorem invBusy_of_busy {s : State} (hbusy : s.engBusy = true) (h : s.fsm ≠ .idle ∨ s.running ≠ none) : InvBusy s :=
  iff_of_true hbusy h

theorem complete_invBusy (s : State) : InvBusy (complete s) := by simp [InvBusy]

theorem raise_invBusy (e : Err) (s : State) : InvBusy (raise e s) := by simp [InvBusy]

theorem failAttempt_invBusy {s : State} (e : Err) (d w : Byte) (hbusy : s.engBusy = true) :
    InvBusy (failAttempt e d w s) := by
  refine invBusy_of_busy hbusy (.inl ?_)
  rcases failAttempt_fsm_cases e d w s with ⟨-, hf⟩ | hf <;> rw [hf] <;> nofun

theorem endCollection_invBusy {s : State} (hbusy : s.engBusy = true) : InvBusy (endCollection s) := by
  rcases endCollection_cases s with ⟨-, heq⟩ | ⟨-, heq⟩ <;> rw [heq]
  · exact failAttempt_invBusy _ _ _ hbusy
  · exact invBusy_of_busy hbusy (.inl nofun)

theorem Transition.keeps_invBusy {s t : State} (hs : InvBusy s) (h : Transition s t) : InvBusy t := by
  have hbusy : s.fsm ≠ .idle → s.engBusy = true := fun hf => hs.mpr (.inl hf)
  cases h with
  | notSent e hf => exact invBusy_of_busy (hbusy (by simp [hf])) (.inl nofun)
  | checked frame hf => exact invBusy_of_busy (hbusy (by simp [hf])) (.inl nofun)
  | drained answers history hf => exact invBusy_of_busy (hbusy (by simp [hf])) (.inl nofun)
  | written answers history hf => exact invBusy_of_busy (hbusy (by simp [hf])) (.inl nofun)
  | writeFailed cause count answers history hf => exact failAttempt_invBusy _ _ _ (hbusy (by simp [hf]))
  | slotsDone hf => exact endCollection_invBusy (hbusy (by simp [hf]))
  | readEnded detail bytes answers history hf => exact endCollection_invBusy (hbusy (by simp [hf]))
  | slotFilled p bytes answers history hf => exact invBusy_of_busy (hbusy (by simp [hf])) (.inl (by simp [takeSlot, hf]))
  | slotWasted detail bytes answers history hf =>
    exact invBusy_of_busy (hbusy (by simp [hf])) (.inl (by simp [takeSlot, hf]))
  | backedOff history hf => exact invBusy_of_busy (hbusy (by simp [hf])) (.inl nofun)
  | failed e series hf => exact raise_invBusy _ _
  | ended hf => exact complete_invBusy _
  | latched p hf => exact complete_invBusy _
  | reassembled w count hf => exact complete_invBusy _
  | reopening answers history hf hrun => exact invBusy_of_busy (hs.mpr (.inr (by simp [hrun]))) (.inr nofun)
  | opened answers history hf => exact complete_invBusy _
  | openFailed answers history hf => exact raise_invBusy _ _
  | closed answers history hf => exact complete_invBusy _
  | closeFailed answers history hf => exact raise_invBusy _ _

theorem settle_invBusy {s : State} (hbusy : s.engBusy = true) (h : s.fsm ≠ .idle ∨ s.running ≠ none) :
    InvBusy (settle s) :=
  settle_keeps (fun _ _ => Transition.keeps_invBusy) (invBusy_of_busy hbusy h)

/-- An accepted operation ends idle, or starts a run that is busy. -/
theorem Executed.invBusy {s t : State} (hbusy : s.engBusy = true) (h : Executed s t) : InvBusy t := by
  cases h with
  | refused => exact raise_invBusy _ _
  | computed => exact complete_invBusy _
  | configured => exact complete_invBusy _
  | reassembled => exact complete_invBusy _
  | balanced => exact complete_invBusy _
  | faulted => exact complete_invBusy _
  | reopening => exact settle_invBusy hbusy (.inr nofun)
  | opening => exact settle_invBusy hbusy (.inr nofun)
  | closing => exact settle_invBusy hbusy (.inr nofun)
  | closed => exact complete_invBusy _
  | exchange => exact settle_invBusy hbusy (.inl nofun)

/-- Settles O56: a transition that does not end the operation leaves the block busy and something running, and an end leaves
it idle. -/
theorem stepKeepsTheBusyFlag : Obligations.StepKeepsTheBusyFlag :=
  fun _ _ hs h => step_keeps resetBlock_invBusy (fun _ _ hu => hu) (fun _ _ => Transition.keeps_invBusy)
    (fun _ _ _ _ hexec => hexec.invBusy rfl) hs h

/-! ### The session -/

/-- A state that is in no exchange past CHECK keeps the session invariant with the link and session registers. -/
theorem InvSession.of_same {s t : State} (hs : InvSession s) (hlink : t.link = s.link)
    (hvalid : t.sessionValid = s.sessionValid) (hstatus : t.sessionStatus = s.sessionStatus)
    (hexch : exchanging t.fsm = true → s.link = true) : InvSession t := by
  obtain ⟨hclosed, hzero, -⟩ := hs
  exact ⟨by rwa [hlink, hvalid], by rwa [hvalid, hstatus], by rwa [hlink]⟩

theorem InvSession.complete {s : State} (hs : InvSession s) : InvSession (complete s) := hs.of_same rfl rfl rfl nofun

theorem InvSession.raise {s : State} (hs : InvSession s) (e : Err) : InvSession (raise e s) :=
  hs.of_same (by simp) (by simp) (by simp) (by simp [exchanging])

/-- A cleared session meets the invariant, with the link in whatever state an exchange needs it. -/
theorem clearSession_invSession {s : State} (h : exchanging s.fsm = true → s.link = true) :
    InvSession (clearSession s) := ⟨fun _ => rfl, fun _ => rfl, h⟩

theorem InvSession.failAttempt {s : State} (hs : InvSession s) (hlink : s.link = true) (e : Err) (d w : Byte) :
    InvSession (failAttempt e d w s) := hs.of_same rfl rfl rfl fun _ => hlink

theorem InvSession.endCollection {s : State} (hs : InvSession s) (hlink : s.link = true) :
    InvSession (endCollection s) := by
  rcases endCollection_cases s with ⟨-, heq⟩ | ⟨-, heq⟩ <;> rw [heq]
  · exact hs.failAttempt hlink _ _ _
  · exact hs.of_same rfl rfl rfl fun _ => hlink

theorem Transition.keeps_invSession {s t : State} (hs : InvSession s) (h : Transition s t) : InvSession t := by
  have hlink : exchanging s.fsm = true → s.link = true := hs.2.2
  cases h with
  | notSent e hf => exact hs.of_same rfl rfl rfl nofun
  | checked frame hf hopen => exact hs.of_same rfl rfl rfl fun _ => hopen
  | drained answers history hf => exact hs.of_same rfl rfl rfl fun _ => hlink (by simp [hf, exchanging])
  | written answers history hf => exact hs.of_same rfl rfl rfl fun _ => hlink (by simp [hf, exchanging])
  | writeFailed cause count answers history hf =>
    exact InvSession.failAttempt (s := { s with answers, history }) hs (hlink (by simp [hf, exchanging])) _ _ _
  | slotsDone hf => exact hs.endCollection (hlink (by simp [hf, exchanging]))
  | readEnded detail bytes answers history hf =>
    refine InvSession.endCollection (hs.of_same rfl rfl rfl hlink) (hlink (by simp [hf, exchanging]))
  | slotFilled p bytes answers history hf => exact hs.of_same rfl rfl rfl hlink
  | slotWasted detail bytes answers history hf => exact hs.of_same rfl rfl rfl hlink
  | backedOff history hf => exact hs.of_same rfl rfl rfl fun _ => hlink (by simp [hf, exchanging])
  | failed e series hf => exact InvSession.raise (s := { s with reply := [], series }) hs e
  | ended hf => exact hs.complete
  | latched p hf =>
    have hopen := hlink (by simp [hf, exchanging])
    exact ⟨fun hc => absurd (hopen.symm.trans hc) nofun, nofun, nofun⟩
  | reassembled w count hf => exact InvSession.complete (s := storeSeries w count.toNat s) hs
  | reopening answers history hf => exact clearSession_invSession (by simp [hf, exchanging])
  | opened answers history hf => exact ⟨nofun, hs.2.1, nofun⟩
  | openFailed answers history hf => exact InvSession.raise (s := { s with answers, history }) hs _
  | closed answers history hf => exact ⟨fun _ => rfl, fun _ => rfl, nofun⟩
  | closeFailed answers history hf => exact InvSession.raise (clearSession_invSession (by simp [hf, exchanging])) _

theorem InvSession.settle {s : State} (hs : InvSession s) : InvSession (settle s) :=
  settle_keeps (fun _ _ => Transition.keeps_invSession) hs

theorem Executed.keeps_invSession {s t : State} (hs : InvSession s) (h : Executed s t) : InvSession t := by
  cases h with
  | refused e reply series bal => exact InvSession.raise (s := { s with reply, series, bal }) hs e
  | computed => exact hs.of_same rfl rfl rfl nofun
  | configured => exact hs.of_same rfl rfl rfl nofun
  | reassembled => exact hs.of_same rfl rfl rfl nofun
  | balanced => exact hs.of_same rfl rfl rfl nofun
  | faulted => exact hs.of_same rfl rfl rfl nofun
  | reopening => exact InvSession.settle (s := { s with running := some .openClosing }) hs
  | opening => exact InvSession.settle (clearSession_invSession hs.2.2)
  | closing => exact InvSession.settle (s := { s with running := some .closing }) hs
  | closed => exact ⟨fun _ => rfl, fun _ => rfl, nofun⟩
  | exchange => exact InvSession.settle (hs.of_same rfl rfl rfl nofun)

/-- Settles O57: the session is only made valid by an exchange that passed CHECK, whose link is open, and every closing of
the link clears it. -/
theorem stepKeepsTheSessionInvariant : Obligations.StepKeepsTheSessionInvariant :=
  fun _ _ hs h => step_keeps resetBlock_invSession (fun _ _ hu => hu) (fun _ _ => Transition.keeps_invSession)
    (fun u _ _ hu hexec => Executed.keeps_invSession (s := { u with engBusy := true }) hu hexec) hs h

/-! ### The engine status codes -/

/-- The clauses of InvEngine about the status registers. -/
def EngineCodes (s : State) : Prop :=
  s.engErr ∈ errCodes ∧
  (s.engErr ≠ 0x05 → s.engErrCmd = 0 ∧ s.engCause = 0 ∧ s.engDetail = 0 ∧ s.engWritten = 0) ∧
  (s.engErr = 0x05 → s.engCause ∈ causeCodes) ∧
  (s.engCause ≠ 0x09 → s.engDetail = 0) ∧
  (s.engCause ≠ 0x08 → s.engWritten = 0) ∧
  s.engDetail ≤ 0x05

/-- The clauses of InvEngine about the running exchange's failure record. -/
def FailureRecorded (s : State) : Prop :=
  s.lastDetail ≤ 0x05 ∧
  (∀ e, s.fsm = .finish (some e) → e = .notOpen ∨ e = .encodingError ∨ e = .exchangeFailed) ∧
  (s.fsm = .finish (some .exchangeFailed) → s.lastCause ∈ causeCodes)

theorem invEngine_iff {s : State} : InvEngine s ↔ EngineCodes s ∧ FailureRecorded s := by
  simp only [InvEngine, EngineCodes, FailureRecorded, and_assoc]

/-- Away from FINISH with an error the record needs its detail alone. -/
theorem failureRecorded_of_fsm {s : State} (hd : s.lastDetail ≤ 0x05) (hf : ∀ e, s.fsm ≠ .finish (some e)) :
    FailureRecorded s := ⟨hd, fun e he => absurd he (hf e), fun he => absurd he (hf _)⟩

theorem detailCode_le (d : Detail) : detailCode d ≤ 0x05 := by cases d <;> decide

/-- 0x05 is the code of `ExchangeFailed` alone (R260). -/
theorem errCode_eq_five_iff {e : Err} : errCode e = 0x05 ↔ e = .exchangeFailed := by cases e <;> decide

/-- A successful end clears the registers (R261). -/
theorem complete_engineCodes (s : State) : EngineCodes (complete s) := by
  simp [EngineCodes, errCodes]

/-- Every error but `ExchangeFailed` ends with its code and zeros (R262). -/
theorem raise_engineCodes {e : Err} (s : State) (hc : errCode e ∈ errCodes) (hx : e ≠ .exchangeFailed) :
    EngineCodes (raise e s) := by
  rw [raise_eq hx]
  exact ⟨hc, fun _ => ⟨rfl, rfl, rfl, rfl⟩, fun he => absurd (errCode_eq_five_iff.mp he) hx, fun _ => rfl, fun _ => rfl,
    detailCode_le .none⟩

/-- `ExchangeFailed` ends with the record of the last attempt (R159). -/
theorem raise_exchangeFailed_engineCodes {s : State} (hcause : s.lastCause ∈ causeCodes) (hd : s.lastDetail ≤ 0x05) :
    EngineCodes (raise .exchangeFailed s) := by
  rw [raise_exchangeFailed]
  refine ⟨by simp [errCodes], fun he => absurd rfl he, fun _ => hcause, fun he => if_neg he, fun he => if_neg he, ?_⟩
  dsimp only
  split
  · exact hd
  · decide

theorem complete_failureRecorded {s : State} (hd : s.lastDetail ≤ 0x05) : FailureRecorded (complete s) :=
  failureRecorded_of_fsm hd nofun

theorem raise_failureRecorded {s : State} (e : Err) (hd : s.lastDetail ≤ 0x05) : FailureRecorded (raise e s) :=
  failureRecorded_of_fsm (by simpa using hd) (by simp)

theorem failAttempt_failureRecorded {e : Err} {d : Byte} (w : Byte) (s : State) (hcause : errCode e ∈ causeCodes)
    (hd : d ≤ 0x05) : FailureRecorded (failAttempt e d w s) := by
  refine ⟨hd, fun e' he => ?_, fun _ => hcause⟩
  rcases failAttempt_fsm_cases e d w s with ⟨-, hf⟩ | hf
  · exact absurd (hf.symm.trans he) nofun
  · cases hf.symm.trans he
    exact .inr (.inr rfl)

theorem endCollection_failureRecorded {s : State} (hd : s.lastDetail ≤ 0x05) : FailureRecorded (endCollection s) := by
  rcases endCollection_cases s with ⟨-, heq⟩ | ⟨-, heq⟩ <;> rw [heq]
  · exact failAttempt_failureRecorded _ _ (by decide) hd
  · exact failureRecorded_of_fsm hd nofun

/-- A collection's end leaves the status registers alone. -/
theorem endCollection_engineCodes {s : State} (hs : EngineCodes s) : EngineCodes (endCollection s) := by
  rcases endCollection_cases s with ⟨-, heq⟩ | ⟨-, heq⟩ <;> rw [heq] <;> exact hs

theorem Transition.keeps_invEngine {s t : State} (hs : InvEngine s) (h : Transition s t) : InvEngine t := by
  obtain ⟨hcodes, hd, herr, hcause⟩ := invEngine_iff.mp hs
  rw [invEngine_iff]
  cases h with
  | notSent e hf he =>
    refine ⟨hcodes, hd, fun e' he' => ?_, fun he' => ?_⟩
    · cases he'
      exact he.imp_right .inl
    · cases he'
      simp at he
  | checked frame hf => exact ⟨hcodes, failureRecorded_of_fsm hd nofun⟩
  | drained answers history hf => exact ⟨hcodes, failureRecorded_of_fsm hd nofun⟩
  | written answers history hf => exact ⟨hcodes, failureRecorded_of_fsm (detailCode_le .none) nofun⟩
  | writeFailed cause count answers history hf hc =>
    refine ⟨hcodes, failAttempt_failureRecorded _ _ ?_ (by decide)⟩
    rcases hc with rfl | rfl <;> decide
  | slotsDone hf => exact ⟨endCollection_engineCodes hcodes, endCollection_failureRecorded hd⟩
  | readEnded detail bytes answers history hf =>
    exact ⟨endCollection_engineCodes hcodes, endCollection_failureRecorded (detailCode_le detail)⟩
  | slotFilled p bytes answers history hf =>
    exact ⟨hcodes, failureRecorded_of_fsm hd (by simp [takeSlot, hf])⟩
  | slotWasted detail bytes answers history hf =>
    exact ⟨hcodes, failureRecorded_of_fsm (detailCode_le detail) (by simp [takeSlot, hf])⟩
  | backedOff history hf => exact ⟨hcodes, failureRecorded_of_fsm hd nofun⟩
  | failed e series hf =>
    refine ⟨?_, raise_failureRecorded e hd⟩
    rcases herr e hf with rfl | rfl | rfl
    · exact raise_engineCodes _ (by decide) (by decide)
    · exact raise_engineCodes _ (by decide) (by decide)
    · exact raise_exchangeFailed_engineCodes (hcause hf) hd
  | ended hf => exact ⟨complete_engineCodes _, complete_failureRecorded hd⟩
  | latched p hf => exact ⟨complete_engineCodes _, complete_failureRecorded hd⟩
  | reassembled w count hf => exact ⟨complete_engineCodes _, complete_failureRecorded hd⟩
  | reopening answers history hf => exact ⟨hcodes, failureRecorded_of_fsm hd (by simp [hf])⟩
  | opened answers history hf => exact ⟨complete_engineCodes _, complete_failureRecorded hd⟩
  | openFailed answers history hf =>
    exact ⟨raise_engineCodes _ (by decide) (by decide), raise_failureRecorded _ hd⟩
  | closed answers history hf => exact ⟨complete_engineCodes _, complete_failureRecorded hd⟩
  | closeFailed answers history hf =>
    exact ⟨raise_engineCodes _ (by decide) (by decide), raise_failureRecorded _ hd⟩

theorem settle_invEngine {s : State} (hcodes : EngineCodes s) (hrecord : FailureRecorded s) : InvEngine (settle s) :=
  settle_keeps (fun _ _ => Transition.keeps_invEngine) (invEngine_iff.mpr ⟨hcodes, hrecord⟩)

theorem Executed.keeps_invEngine {s t : State} (hs : InvEngine s) (h : Executed s t) : InvEngine t := by
  obtain ⟨hcodes, hrecord⟩ := invEngine_iff.mp hs
  have hd : s.lastDetail ≤ 0x05 := hrecord.1
  have hdone : ∀ u : State, u.lastDetail = s.lastDetail → InvEngine (complete u) := fun u hu =>
    invEngine_iff.mpr ⟨complete_engineCodes u, complete_failureRecorded (hu ▸ hd)⟩
  cases h with
  | refused e reply series bal hc hx =>
    exact invEngine_iff.mpr ⟨raise_engineCodes _ hc hx, raise_failureRecorded e hd⟩
  | computed => exact hdone _ rfl
  | configured => exact hdone _ rfl
  | reassembled => exact hdone _ rfl
  | balanced => exact hdone _ rfl
  | faulted => exact hdone _ rfl
  | reopening => exact settle_invEngine hcodes hrecord
  | opening => exact settle_invEngine hcodes hrecord
  | closing => exact settle_invEngine hcodes hrecord
  | closed => exact hdone _ rfl
  | exchange => exact settle_invEngine hcodes (failureRecorded_of_fsm hd nofun)

/-- Settles O58: only an operation's end writes the status registers, with success, with an error of the list, or with the
failure record, which every failed attempt keeps to the listed causes and details. -/
theorem stepKeepsTheEngineCodes : Obligations.StepKeepsTheEngineCodes :=
  fun _ _ hs h => step_keeps resetBlock_invEngine (fun _ _ hu => hu) (fun _ _ => Transition.keeps_invEngine)
    (fun u _ _ hu hexec => Executed.keeps_invEngine (s := { u with engBusy := true }) hu hexec) hs h

end Sys2Proof.Machine

/-! PROOFS. The bounds of the running exchange (spec/10_state.md R24, R37, R39, R41, spec/41_dispatcher.md R152, R167) are
kept by every step: the invariant is read as one condition for each state of the exchange machine. -/

namespace Sys2Proof.Machine

/-- The attempt number is in range (R152). -/
def AttemptInRange (s : State) : Prop := 1 ≤ s.attempt ∧ s.attempt ≤ s.rEff

/-- What InvExchange asks of each state of the exchange machine. -/
def PhaseBounds (s : State) : Fsm → Prop
  | .idle => True
  | .check => s.rEff ≠ 0
  | .drain => AttemptInRange s
  | .write => AttemptInRange s ∧ s.reply = []
  | .collect => AttemptInRange s ∧ s.reply.length + 1 ≤ slotNumber s ∧ slotNumber s ≤ s.xN.toNat + 1
  | .backoff => AttemptInRange s ∧ s.attempt < s.rEff
  | .finish none => s.reply ≠ [] ∧ s.reply.length ≤ s.xN.toNat
  | .finish (some e) => e = .exchangeFailed → s.reply = []

/-- InvExchange, with the clauses about one state of the machine taken together. -/
theorem invExchange_iff {s : State} : InvExchange s ↔
    s.retries ≠ 0 ∧ s.reply.length ≤ 255 ∧ s.xExtra.length ≤ 8 ∧ PhaseBounds s s.fsm := by
  have hmax : Config.maxFrames = 255 := rfl
  unfold InvExchange
  rw [hmax]
  cases s.fsm with
  | finish e => cases e <;> simp [PhaseBounds, and_comm]
  | _ => simp [PhaseBounds, AttemptInRange] <;> tauto

/-! ### A failed attempt and the end of a collection -/

/-- A failed attempt in range backs off below the bound, or ends the exchange with no reply (R158). -/
theorem failAttempt_phase {s : State} (e : Err) (d w : Byte) (hatt : AttemptInRange s) (hreply : s.reply = []) :
    PhaseBounds (failAttempt e d w s) (failAttempt e d w s).fsm := by
  rcases failAttempt_fsm_cases e d w s with ⟨hlt, hf⟩ | hf <;> rw [hf]
  · exact ⟨hatt, hlt⟩
  · exact fun _ => hreply

/-- Of a collection with at most `X.N` replies, the attempt succeeds with them or fails with none (R158, R160). -/
theorem endCollection_phase {s : State} (hatt : AttemptInRange s) (hcount : s.reply.length ≤ s.xN.toNat) :
    PhaseBounds (endCollection s) (endCollection s).fsm := by
  rcases endCollection_cases s with ⟨hreply, heq⟩ | ⟨hreply, heq⟩ <;> rw [heq]
  · exact failAttempt_phase _ _ _ hatt hreply
  · exact ⟨hreply, hcount⟩

/-- The registers that InvExchange bounds in every state. -/
def exchangeRegs (s : State) : Byte × List Payload × List Byte := (s.retries, s.reply, s.xExtra)

theorem endCollection_exchangeRegs (s : State) : exchangeRegs (endCollection s) = exchangeRegs s := by
  rcases endCollection_cases s with ⟨-, heq⟩ | ⟨-, heq⟩ <;> rw [heq] <;> rfl

theorem InvExchange.of_regs {s t : State} (hs : InvExchange s) (h : exchangeRegs t = exchangeRegs s)
    (hphase : PhaseBounds t t.fsm) : InvExchange t := by
  obtain ⟨hretries, hreply, hextra, -⟩ := invExchange_iff.mp hs
  obtain ⟨h1, h2, h3⟩ : t.retries = s.retries ∧ t.reply = s.reply ∧ t.xExtra = s.xExtra := by simpa [exchangeRegs] using h
  exact invExchange_iff.mpr ⟨h1 ▸ hretries, h2 ▸ hreply, h3 ▸ hextra, hphase⟩

/-! ### An end -/

theorem InvExchange.complete {s : State} (hs : InvExchange s) : InvExchange (complete s) := hs.of_regs rfl trivial

theorem InvExchange.raise {s : State} (hs : InvExchange s) (e : Err) : InvExchange (raise e s) :=
  hs.of_regs (by simp [exchangeRegs]) (by rw [raise_fsm]; trivial)

/-- Dropping the replies and ending with an error keeps the bounds (R263). -/
theorem InvExchange.raise_dropped {s : State} (hs : InvExchange s) (e : Err) (series : List Int) :
    InvExchange (Machine.raise e { s with reply := [], series }) := by
  obtain ⟨hretries, -, hextra, -⟩ := invExchange_iff.mp hs
  refine invExchange_iff.mpr ⟨by simpa using hretries, by simp, by simpa using hextra, ?_⟩
  rw [raise_fsm]
  trivial

/-! ### The transitions -/

/-- Taking a slot after at most one more reply keeps the slot count ahead of the replies (R150, R167). -/
theorem takeSlot_phase {s : State} (hf : s.fsm = .collect) (hs : slotsTaken s = false) (hatt : AttemptInRange s)
    (hcount : s.reply.length ≤ slotNumber s) : PhaseBounds (takeSlot s) (takeSlot s).fsm := by
  have hnum := slotNumber_takeSlot (slotCarry_of_waiting hs)
  rw [slotsTaken_eq_false] at hs
  rw [show (takeSlot s).fsm = .collect from hf]
  refine ⟨hatt, ?_, ?_⟩
  · rw [hnum]
    exact Nat.succ_le_succ hcount
  · rw [hnum]
    exact Nat.succ_le_succ hs

theorem Transition.keeps_invExchange {s t : State} (hs : InvExchange s) (h : Transition s t) : InvExchange t := by
  obtain ⟨hretries, hreply, hextra, hphase⟩ := invExchange_iff.mp hs
  have hn : s.xN.toNat ≤ 255 := Nat.le_of_lt_succ s.xN.isLt
  cases h with
  | notSent e hf he =>
    refine hs.of_regs rfl fun hx => ?_
    simp [hx] at he
  | checked frame hf =>
    rw [hf] at hphase
    have hr : s.rEff ≠ 0 := hphase
    exact hs.of_regs rfl ⟨BitVec.le_refl 1, by bv_omega⟩
  | drained answers history hf =>
    rw [hf] at hphase
    exact invExchange_iff.mpr ⟨hretries, Nat.zero_le _, hextra, hphase, rfl⟩
  | written answers history hf =>
    rw [hf] at hphase
    obtain ⟨hatt, hnil⟩ := hphase
    exact hs.of_regs rfl ⟨hatt, by simp [slotNumber, hnil], by simp [slotNumber]⟩
  | writeFailed cause count answers history hf =>
    rw [hf] at hphase
    obtain ⟨hatt, hnil⟩ := hphase
    exact hs.of_regs rfl (failAttempt_phase (s := { s with answers, history }) _ _ _ hatt hnil)
  | slotsDone hf =>
    rw [hf] at hphase
    obtain ⟨hatt, hahead, hlast⟩ := hphase
    exact hs.of_regs (endCollection_exchangeRegs s) (endCollection_phase hatt (by omega))
  | readEnded detail bytes answers history hf =>
    rw [hf] at hphase
    obtain ⟨hatt, hahead, hlast⟩ := hphase
    refine hs.of_regs (endCollection_exchangeRegs _) (endCollection_phase hatt ?_)
    exact Nat.le_of_succ_le_succ (hahead.trans hlast)
  | slotFilled p bytes answers history hf hwait =>
    rw [hf] at hphase
    obtain ⟨hatt, hahead, -⟩ := hphase
    have hone : (s.reply ++ [p]).length ≤ slotNumber s := by simpa using hahead
    have hnum := slotsTaken_eq_false.mp hwait
    exact invExchange_iff.mpr ⟨hretries, hone.trans (hnum.trans hn), hextra, takeSlot_phase hf hwait hatt hone⟩
  | slotWasted detail bytes answers history hf hwait =>
    rw [hf] at hphase
    obtain ⟨hatt, hahead, -⟩ := hphase
    exact hs.of_regs rfl (takeSlot_phase hf hwait hatt (Nat.le_of_succ_le hahead))
  | backedOff history hf =>
    rw [hf] at hphase
    obtain ⟨⟨hone, -⟩, hlt⟩ := hphase
    refine hs.of_regs rfl ⟨?_, ?_⟩
    · show 1 ≤ s.attempt + 1
      bv_omega
    · show s.attempt + 1 ≤ s.rEff
      bv_omega
  | failed e series hf => exact hs.raise_dropped e series
  | ended hf => exact hs.complete
  | latched p hf => exact InvExchange.complete (hs.of_regs rfl hphase)
  | reassembled w count hf => exact InvExchange.complete (hs.of_regs rfl hphase)
  | reopening answers history hf => exact hs.of_regs rfl (by rw [clearSession_fsm, hf]; trivial)
  | opened answers history hf => exact InvExchange.complete (hs.of_regs rfl hphase)
  | openFailed answers history hf => exact InvExchange.raise (s := { s with answers, history }) hs _
  | closed answers history hf => exact InvExchange.complete (hs.of_regs rfl hphase)
  | closeFailed answers history hf =>
    exact InvExchange.raise (s := clearSession { s with answers, history, link := false }) hs _

theorem InvExchange.settle {s : State} (hs : InvExchange s) : InvExchange (settle s) :=
  settle_keeps (fun _ _ => Transition.keeps_invExchange) hs

/-! ### The operations -/

theorem clampRetries_ne_zero (r : Byte) : clampRetries r ≠ 0 := by
  unfold clampRetries
  split
  · decide
  · assumption

/-- An exchange starts in CHECK with a bound of at least 1 and at most eight bytes in `X.EXTRA` (R41, R152). -/
theorem InvExchange.startExchange {s : State} (hs : InvExchange s) (op : Running) (cmd : Byte) (extra : List Byte)
    (n r : Byte) : InvExchange (startExchange op cmd extra n r s) := by
  obtain ⟨hretries, hreply, -, -⟩ := invExchange_iff.mp hs
  exact invExchange_iff.mpr ⟨hretries, hreply, List.length_take_le 8 extra, clampRetries_ne_zero r⟩

theorem Executed.keeps_invExchange {s t : State} (hs : InvExchange s) (h : Executed s t) : InvExchange t := by
  obtain ⟨hretries, hreply, hextra, hphase⟩ := invExchange_iff.mp hs
  cases h with
  | refused e reply series bal hc hx hr =>
    rcases hr with rfl | rfl
    · exact InvExchange.raise (s := { s with series, bal }) hs e
    · exact InvExchange.raise_dropped (s := { s with bal }) hs e series
  | computed => exact hs.of_regs rfl trivial
  | configured v r => exact invExchange_iff.mpr ⟨clampRetries_ne_zero r, hreply, hextra, trivial⟩
  | reassembled => exact hs.of_regs rfl trivial
  | balanced => exact hs.of_regs rfl trivial
  | faulted => exact hs.of_regs rfl trivial
  | reopening => exact InvExchange.settle (hs.of_regs rfl hphase)
  | opening => exact InvExchange.settle (hs.of_regs rfl hphase)
  | closing => exact InvExchange.settle (hs.of_regs rfl hphase)
  | closed => exact hs.of_regs rfl trivial
  | exchange op cmd extra n r resPages =>
    exact (InvExchange.startExchange (s := { s with resPages }) hs op cmd extra n r).settle

/-- Settles O59: each transition takes the condition of the machine's state to that of its next state, and every operation
starts in a state that meets its own. -/
theorem stepKeepsTheExchangeBounds : Obligations.StepKeepsTheExchangeBounds :=
  fun _ _ hs h => step_keeps resetBlock_invExchange (fun _ _ hu => hu) (fun _ _ => Transition.keeps_invExchange)
    (fun u _ _ hu hexec => Executed.keeps_invExchange (s := { u with engBusy := true }) hu hexec) hs h

end Sys2Proof.Machine

/-! PROOFS. The page reassembler and planner (spec/42_reassembler.md R181 to R193): a walk over the pages in closed form, the
values of a page's items, and the least page count. -/

namespace Sys2Proof.Machine

/-! ### A walk over the pages in closed form -/

/-- The page-index log of pages of which the first is compared with `first`. -/
def pageLogsFrom (first : Nat) (pages : List Payload) : List Event :=
  (pages.zipIdx first).flatMap (fun x =>
    if x.1.b0.toNat = x.2 then [] else [.log (.pageIndexMismatch (BitVec.ofNat 9 x.2) x.1.b0)])

theorem pageLogs_eq (pages : List Payload) : pageLogs pages = pageLogsFrom 1 pages := rfl

@[simp] theorem pageLogsFrom_nil (first : Nat) : pageLogsFrom first [] = [] := rfl

theorem pageLogsFrom_cons (first : Nat) (p : Payload) (pages : List Payload) :
    pageLogsFrom first (p :: pages) =
      (if p.b0.toNat = first then [] else [.log (.pageIndexMismatch (BitVec.ofNat 9 first) p.b0)]) ++
        pageLogsFrom (first + 1) pages := rfl

/-- An index byte agrees with a nine-bit index exactly where the numbers do (R181). -/
theorem zeroExtend_eq_ofNat_iff {b : Byte} {k : Nat} (hk : k < 512) :
    b.zeroExtend 9 = BitVec.ofNat 9 k ↔ b.toNat = k := by
  have hb := b.isLt
  rw [← BitVec.toNat_inj]
  simp only [BitVec.truncate_eq_setWidth, BitVec.toNat_setWidth, BitVec.toNat_ofNat]
  omega

/-- The log of one page that is looked at (R181). -/
theorem takePage_logs {w count k : Nat} {p : Payload} {r : Reassembly} (hk : k < 512)
    (hexp : r.expIdx = BitVec.ofNat 9 k) :
    (takePage w count p r).logs.map Event.log = r.logs.map Event.log ++
      (if p.b0.toNat = k then [] else [.log (.pageIndexMismatch (BitVec.ofNat 9 k) p.b0)]) := by
  unfold takePage
  rw [hexp]
  simp only [zeroExtend_eq_ofNat_iff hk]
  split <;> simp

theorem ceilDiv_zero {n : Nat} (hn : 0 < n) : ceilDiv 0 n = 0 := Nat.div_eq_of_lt (by omega)

/-- One page more, `n` items fewer. -/
theorem ceilDiv_pos {m n : Nat} (hm : 0 < m) (hn : 0 < n) : ceilDiv m n = ceilDiv (m - n) n + 1 := by
  unfold ceilDiv
  by_cases h : m ≤ n
  · rw [show m - n = 0 by omega, show m + n - 1 = m - 1 + n by omega, Nat.add_div_right _ hn,
      Nat.div_eq_of_lt (by omega), Nat.div_eq_of_lt (by omega)]
  · rw [show m + n - 1 = m - n + n - 1 + n by omega, Nat.add_div_right _ hn]

/-- A walk from a reassembly that waits for page `k` takes the missing items from as many pages as hold them, and compares
each with its index (R181, R184). -/
theorem walkPages_eq {w count : Nat} (hw : 0 < itemsPerPage w) :
    ∀ (pages : List Payload) (r : Reassembly) (k : Nat), r.series.length ≤ count → r.expIdx = BitVec.ofNat 9 k →
      k + ceilDiv (count - r.series.length) (itemsPerPage w) ≤ 512 →
      (walkPages w count pages r).series =
          r.series ++ (pages.flatMap (fun p => pageItems p w)).take (count - r.series.length) ∧
        (walkPages w count pages r).expIdx =
          BitVec.ofNat 9 (k + (pagesLookedAt w (count - r.series.length) pages).length) ∧
        (walkPages w count pages r).logs.map Event.log =
          r.logs.map Event.log ++ pageLogsFrom k (pagesLookedAt w (count - r.series.length) pages) := by
  intro pages
  induction pages with
  | nil => intro r k hlen hexp hk; simp [pagesLookedAt, hexp]
  | cons p pages ih =>
    intro r k hlen hexp hk
    by_cases hfull : r.series.length = count
    · rw [walkPages_full hfull]
      simp [pagesLookedAt, hfull, hexp, ceilDiv_zero hw]
    · have hmissing : 0 < count - r.series.length := by omega
      have hceil := ceilDiv_pos hmissing hw
      have hleft : count - (takePage w count p r).series.length = count - r.series.length - itemsPerPage w := by
        rw [takePage_series, List.length_append, List.length_take, pageItems_length]
        omega
      have hlooked : pagesLookedAt w (count - r.series.length) (p :: pages) =
          p :: pagesLookedAt w (count - r.series.length - itemsPerPage w) pages := by
        simp [pagesLookedAt, hceil]
      obtain ⟨hseries, hidx, hlogs⟩ := ih (takePage w count p r) (k + 1) (takePage_length hlen)
        (by rw [takePage_expIdx, hexp]; simp [BitVec.ofNat_add]) (by rw [hleft]; omega)
      rw [walkPages_cons hfull]
      rw [hleft] at hseries hidx hlogs
      refine ⟨?_, ?_, ?_⟩
      · rw [hseries, takePage_series, List.flatMap_cons, List.take_append, pageItems_length, List.append_assoc]
      · rw [hidx, hlooked, List.length_cons, Nat.add_right_comm, Nat.add_assoc]
      · rw [hlogs, takePage_logs (by omega) hexp, hlooked, pageLogsFrom_cons, List.append_assoc]

/-- Both item widths put at least three items in a page (R183). -/
theorem three_le_itemsPerPage {w : Nat} (hw : w = 1 ∨ w = 2) : 3 ≤ itemsPerPage w := by
  rcases hw with rfl | rfl <;> decide

/-- A count of one byte needs at most 85 pages (R191). -/
theorem ceilDiv_byte_le {w : Nat} (hw : w = 1 ∨ w = 2) (count : Byte) : ceilDiv count.toNat (itemsPerPage w) ≤ 85 := by
  have hcount := count.isLt
  rcases hw with rfl | rfl
  · show (count.toNat + 7 - 1) / 7 ≤ 85
    omega
  · show (count.toNat + 3 - 1) / 3 ≤ 85
    omega

/-- The storage of a series in closed form: the items cut at the count, one more than the pages looked at in EXP_IDX, and
their index log (R180, R181, R43). -/
theorem storeSeries_closed {w : Nat} (hw : w = 1 ∨ w = 2) (count : Byte) (s : State) :
    storeSeries w count.toNat s = { s with
      series := seriesOf w count.toNat s.reply
      expIdx := BitVec.ofNat 9 (1 + (pagesLookedAt w count.toNat s.reply).length)
      history := s.history ++ pageLogs (pagesLookedAt w count.toNat s.reply) } := by
  have hceil := ceilDiv_byte_le hw count
  obtain ⟨hseries, hidx, hlogs⟩ := walkPages_eq (count := count.toNat)
    (Nat.lt_of_lt_of_le (by decide) (three_le_itemsPerPage hw)) s.reply { series := [], expIdx := 1, logs := [] } 1
    (Nat.zero_le _) rfl (by simp only [List.length_nil, Nat.sub_zero]; omega)
  simp only [List.length_nil, Nat.sub_zero, List.nil_append, List.map_nil] at hseries hidx hlogs
  rw [storeSeries_eq, pageLogs_eq]
  unfold reassemble
  rw [hseries, hidx, hlogs]
  rfl

/-! ### Item by item -/

/-- Item `k` of blocks of equal length is item `k mod n` of block `k / n`. -/
theorem getElem?_flatMap_const {α β : Type} {f : α → List β} {n : Nat} (hn : 0 < n) (hf : ∀ a, (f a).length = n) :
    ∀ (l : List α) (k : Nat), (l.flatMap f)[k]? = l[k / n]?.bind (fun a => (f a)[k % n]?) := by
  intro l
  induction l with
  | nil => simp
  | cons a l ih =>
    intro k
    rw [List.flatMap_cons, List.getElem?_append, hf a]
    by_cases hk : k < n
    · simp [hk, Nat.div_eq_of_lt hk, Nat.mod_eq_of_lt hk]
    · have hsplit : k = k - n + n := by omega
      rw [if_neg hk, ih, hsplit, Nat.add_div_right _ hn, Nat.add_mod_right]
      simp

theorem length_flatMap_pageItems (w : Nat) (pages : List Payload) :
    (pages.flatMap (fun p => pageItems p w)).length = pages.length * itemsPerPage w := by
  simp [List.length_flatMap]

/-- The series has the count or every item the pages hold, whichever is less (R187). -/
theorem seriesOf_length (w count : Nat) (pages : List Payload) :
    (seriesOf w count pages).length = min count (pages.length * itemsPerPage w) := by
  rw [seriesOf, List.length_take, length_flatMap_pageItems]

/-- Item `k` of the series is item `k mod n` of its page (R84, R182). -/
theorem seriesOf_getElem? {w count : Nat} (hw : 0 < itemsPerPage w) {pages : List Payload} {k : Nat} {p : Payload}
    (hk : k < (seriesOf w count pages).length) (hp : pages[k / itemsPerPage w]? = some p) :
    (seriesOf w count pages)[k]? = some (item p w (k % itemsPerPage w)) := by
  rw [seriesOf_length] at hk
  rw [seriesOf, List.getElem?_take_of_lt (by omega), getElem?_flatMap_const hw (fun p => pageItems_length p w), hp]
  have hmod : k % itemsPerPage w < itemsPerPage w := Nat.mod_lt _ hw
  simp [pageItems, hmod]

/-- `sext` of a bit vector's number is its two's-complement value (R5). -/
theorem sext_toNat {n : Nat} (hn : 0 < n) (v : BitVec n) : sext n v.toNat = v.toInt := by
  have hpow : 2 ^ n = 2 * 2 ^ (n - 1) := by rw [← Nat.pow_succ', Nat.succ_eq_add_one, Nat.sub_add_cancel hn]
  rw [BitVec.toInt_eq_toNat_cond, sext]
  by_cases h : v.toNat < 2 ^ (n - 1)
  · rw [if_pos h, if_pos (by omega)]
  · rw [if_neg h, if_neg (by omega)]
    push_cast
    rfl

theorem be_one (b : Byte) : be [b] = b.toNat := by simp [be]

/-- Two bytes big-endian are the bytes put together. -/
theorem be_two (a b : Byte) : be [a, b] = (a ++ b).toNat := by
  rw [BitVec.toNat_append, ← Nat.shiftLeft_add_eq_or_of_lt b.isLt, Nat.shiftLeft_eq]
  simp [be]

/-- A one-byte item is the two's-complement value of its byte (R84). -/
theorem item_one {p : Payload} {j : Nat} (hj : j < 7) : item p 1 j = (p.toList.getD (1 + j) 0).toInt := by
  have hlt : 1 + j < p.toList.length := by rw [Payload.toList_length]; omega
  rw [item, Nat.mul_one j, List.take_one_drop_eq_of_lt_length hlt, be_one, sext_toNat (by decide),
    List.getD_eq_getElem _ _ hlt]
  rfl

/-- A two-byte item is the big-endian two's-complement value of its bytes (R84). -/
theorem item_two {p : Payload} {j : Nat} (hj : j < 3) :
    item p 2 j = (p.toList.getD (1 + 2 * j) 0 ++ p.toList.getD (2 + 2 * j) 0).toInt := by
  have hsecond : 1 + 2 * j + 1 < p.toList.length := by rw [Payload.toList_length]; omega
  rw [item, Nat.mul_comm j 2, List.drop_eq_getElem_cons (by omega), List.drop_eq_getElem_cons hsecond, List.take_succ_cons,
    List.take_succ_cons, List.take_zero, be_two, List.getD_eq_getElem _ _ (by omega),
    List.getD_eq_getElem _ _ (by rw [Payload.toList_length]; omega)]
  simp only [show 2 + 2 * j = 1 + 2 * j + 1 by omega]
  exact sext_toNat (by decide) _

/-- Settles O24: the walk in closed form, and the value of each item by its width. -/
theorem reassembleCutsTheItemsAtTheCount : Obligations.ReassembleCutsTheItemsAtTheCount := by
  intro s w count hidle hw _
  have hnat : w.toNat = 1 ∨ w.toNat = 2 := hw.imp (congrArg BitVec.toNat) (congrArg BitVec.toNat)
  refine ⟨?_, ?_⟩
  · obtain ⟨hbusy, hfsm, hrun⟩ := hidle
    show execReassemble w count s = _
    rw [execReassemble, accept_idle hbusy, if_pos hw, storeSeries_closed hnat, complete_eq]
    simp [hbusy, hfsm, hrun]
  · rcases hw with rfl | rfl
    · refine ⟨seriesOf_length _ _ _, fun k p hk hp => ?_⟩
      rw [seriesOf_getElem? (by decide) hk hp]
      exact congrArg some (item_one (Nat.mod_lt k (by decide)))
    · refine ⟨seriesOf_length _ _ _, fun k p hk hp => ?_⟩
      rw [seriesOf_getElem? (by decide) hk hp]
      exact congrArg some (item_two (Nat.mod_lt k (by decide)))

/-! ### The page plan -/

/-- `ceilDiv` is the least count of pages of `n` that holds `m`. -/
theorem ceilDiv_le_iff {m n q : Nat} (hn : 0 < n) : ceilDiv m n ≤ q ↔ m ≤ q * n := by
  unfold ceilDiv
  rw [Nat.div_le_iff_le_mul_add_pred hn, Nat.mul_comm n q]
  omega

theorem pageKind?_of_le_one {kind : Byte} (h : kind ≤ 1) :
    pageKind? kind = some (if kind = 0 then .cells else .temperatures) := by
  have hcases : kind = 0 ∨ kind = 1 := by bv_omega
  rcases hcases with rfl | rfl <;> rfl

/-- Every plan fits in a byte with room: at most 85 pages (R191). -/
theorem pagePlan_le (kind : PageKind) (s : State) : pagePlan kind s ≤ 85 := by
  unfold pagePlan
  split
  · decide
  · decide
  · exact ceilDiv_byte_le (.inr rfl) (sessionCells s)
  · exact ceilDiv_byte_le (.inl rfl) (sessionSensors s)

/-- RES.PAGES holds the plan whole. -/
theorem pagePlan_toNat (kind : PageKind) (s : State) : (BitVec.ofNat 8 (pagePlan kind s)).toNat = pagePlan kind s := by
  have := pagePlan_le kind s
  rw [BitVec.toNat_ofNat]
  omega

/-- A byte of a payload at one of its eight offsets (R31). -/
theorem toList_getElem?_payloadByte (p : Payload) (j : Fin 8) : p.toList[j.val]? = some (payloadByte p j) := by
  have hj : j.val < p.toList.length := j.isLt
  rw [payloadByte, List.getD_eq_getElem _ _ hj, List.getElem?_eq_getElem hj]

/-- Settles O25: on the wireless bridge the plan is fixed, on the wired link it is the ceiling of a quotient. -/
theorem planPagesPlansTheLeastPageCount : Obligations.PlanPagesPlansTheLeastPageCount := by
  intro s kind hidle hsession hkind
  obtain ⟨hbusy, hfsm, hrun⟩ := hidle
  have hpages := pagePlan_toNat (if kind = 0 then .cells else .temperatures) s
  refine ⟨BitVec.ofNat 8 (pagePlan (if kind = 0 then .cells else .temperatures) s), ?_, ?_, ?_,
    toList_getElem?_payloadByte _ _, toList_getElem?_payloadByte _ _, ?_⟩
  · show execPlanPages kind s = _
    rw [execPlanPages, accept_idle hbusy, pageKind?_of_le_one hkind]
    simp only [hsession, if_true, complete_eq]
    rw [← hbusy, ← hfsm, ← hrun]
    rfl
  · intro hv
    by_cases hk : kind = 0
    · simp only [if_pos hk, pagePlan, hv]
      rfl
    · simp only [if_neg hk, pagePlan, hv]
      rfl
  · intro hv
    rw [hpages]
    by_cases hk : kind = 0
    · simp only [if_pos hk, pagePlan, hv]
      exact ⟨(ceilDiv_le_iff (by decide)).mp (Nat.le_refl _), fun q => (ceilDiv_le_iff (by decide)).mpr⟩
    · simp only [if_neg hk, pagePlan, hv]
      exact ⟨(ceilDiv_le_iff (by decide)).mp (Nat.le_refl _), fun q => (ceilDiv_le_iff (by decide)).mpr⟩
  · rw [hpages]
    exact pagePlan_le _ s

end Sys2Proof.Machine

/-! PROOFS. The widths of the result buffers (spec/10_state.md R36, R38, R42, R43) are kept by every step. -/

namespace Sys2Proof.Machine

/-- The registers that InvBuffers is about. -/
def buffers (s : State) : List Int × List Bool × List FaultEntry × BitVec 9 × BitVec 4 :=
  (s.series, s.bal, s.fault, s.expIdx, s.rxlen)

theorem InvBuffers.of_same {s t : State} (hs : InvBuffers s) (h : buffers t = buffers s) : InvBuffers t := by
  simp only [buffers, Prod.mk.injEq] at h
  obtain ⟨h1, h2, h3, h4, h5⟩ := h
  unfold InvBuffers
  rw [h1, h2, h3, h4, h5]
  exact hs

theorem endCollection_buffers (s : State) : buffers (endCollection s) = buffers s := by
  rcases endCollection_cases s with ⟨-, heq⟩ | ⟨-, heq⟩ <;> rw [heq] <;> rfl

theorem raise_buffers (e : Err) (s : State) : buffers (raise e s) = buffers s := by simp [buffers]

/-! ### Each buffer's writer -/

/-- A stored read is at most 13 bytes long (R42, R66). -/
theorem InvBuffers.storeSlot {s : State} (hs : InvBuffers s) {bytes : List Byte} (hlen : bytes.length ≤ 13) :
    InvBuffers (storeSlot bytes s) := by
  obtain ⟨hseries, hvalues, hbal, hfault, hlow, hhigh, -⟩ := hs
  refine ⟨hseries, hvalues, hbal, hfault, hlow, hhigh, ?_⟩
  rw [storeSlot_rxlen, BitVec.toNat_ofNat]
  omega

theorem toInt_bounds {n : Nat} (hn : n ≤ 16) (v : BitVec n) : -32768 ≤ v.toInt ∧ v.toInt ≤ 32767 := by
  have hlow := BitVec.le_toInt v
  have hhigh := BitVec.toInt_le (x := v)
  have hpow : (2 : Int) ^ (n - 1) ≤ 2 ^ 15 := pow_le_pow_right₀ (by decide) (by omega)
  omega

/-- An item of either width is a 16-bit value (R38, R84). -/
theorem item_bounds {w j : Nat} (hw : w = 1 ∨ w = 2) (hj : j < itemsPerPage w) (p : Payload) :
    -32768 ≤ item p w j ∧ item p w j ≤ 32767 := by
  rcases hw with rfl | rfl
  · rw [item_one hj]
    exact toInt_bounds (by decide) _
  · rw [item_two hj]
    exact toInt_bounds (by decide) _

theorem mem_seriesOf {w count : Nat} {pages : List Payload} {v : Int} (h : v ∈ seriesOf w count pages) :
    ∃ p j, j < itemsPerPage w ∧ v = item p w j := by
  obtain ⟨p, -, hv⟩ := List.mem_flatMap.mp (List.mem_of_mem_take h)
  obtain ⟨j, hj, rfl⟩ := List.mem_map.mp hv
  exact ⟨p, j, List.mem_range.mp hj, rfl⟩

/-- A stored series has at most COUNT 16-bit items, and EXP_IDX at most 86 (R38, R43). -/
theorem InvBuffers.storeSeries {s : State} (hs : InvBuffers s) {w : Nat} (hw : w = 1 ∨ w = 2) (count : Byte) :
    InvBuffers (storeSeries w count.toNat s) := by
  obtain ⟨-, -, hbal, hfault, -, -, hrx⟩ := hs
  have hcount := count.isLt
  have hpages : (pagesLookedAt w count.toNat s.reply).length ≤ 85 :=
    (List.length_take_le _ _).trans (ceilDiv_byte_le hw count)
  have hidx : (BitVec.ofNat 9 (1 + (pagesLookedAt w count.toNat s.reply).length)).toNat =
      1 + (pagesLookedAt w count.toNat s.reply).length := by
    rw [BitVec.toNat_ofNat]
    omega
  rw [storeSeries_closed hw]
  refine ⟨?_, fun v hv => ?_, hbal, hfault, ?_, ?_, hrx⟩
  · show (seriesOf w count.toNat s.reply).length ≤ 255
    rw [seriesOf_length]
    omega
  · obtain ⟨p, j, hj, rfl⟩ := mem_seriesOf hv
    exact item_bounds hw hj p
  · show 1 ≤ (BitVec.ofNat 9 _).toNat
    omega
  · show (BitVec.ofNat 9 _).toNat ≤ 256
    omega

theorem be_foldl_lt (bs : List Byte) (acc : Nat) :
    bs.foldl (fun acc b => acc * 256 + b.toNat) acc < (acc + 1) * 256 ^ bs.length := by
  induction bs generalizing acc with
  | nil => simp
  | cons b bs ih =>
    have hb := b.isLt
    rw [List.foldl_cons, List.length_cons, Nat.pow_succ']
    refine (ih _).trans_le ?_
    rw [← Nat.mul_assoc]
    exact Nat.mul_le_mul_right _ (by omega)

/-- A payload read big-endian has 64 bits (R85). -/
theorem bmap_lt (p : Payload) : bmap p < 2 ^ 64 := by
  have := be_foldl_lt p.toList 0
  rw [Payload.toList_length] at this
  simpa [bmap, be] using this

/-- The padded width is at most 64 (R240). -/
theorem balWidth_le (p : Payload) : balWidth p ≤ 64 := by
  refine Nat.max_le.mpr ⟨by decide, ?_⟩
  unfold bitLength
  split
  · omega
  · rename_i hne
    exact (Nat.log2_lt hne).mpr (bmap_lt p)

theorem balancing_length {p : Payload} {cells : Nat} {flags : List Bool} (h : balancing p cells = .ok flags) :
    flags.length ≤ 64 := by
  unfold balancing at h
  split at h
  · cases h
  · cases h
    have := balWidth_le p
    rw [List.length_map, List.length_range]
    omega

/-- Eight bytes of eight bits (R243). -/
theorem faults_length_le (table : List FaultRow) (p : Payload) : (faults table p).length ≤ 64 := by
  have hbyte : ∀ j, ((indices8.filter (fun b => faultBit p j b)).map (fun b => faultEntry table j b)).length ≤ 8 :=
    fun j => by
      rw [List.length_map]
      exact List.length_filter_le _ indices8
  rw [faults, List.length_flatMap]
  refine (List.sum_le_card_nsmul _ 8 fun n hn => ?_).trans (by simp [indices8])
  obtain ⟨j, -, rfl⟩ := List.mem_map.mp hn
  exact hbyte j

/-! ### The transitions and the operations -/

theorem Transition.keeps_invBuffers {s t : State} (hs : InvBuffers s) (h : Transition s t) : InvBuffers t := by
  cases h with
  | readEnded detail bytes answers history hf hwait hlen =>
    exact InvBuffers.of_same (InvBuffers.storeSlot (s := { s with answers, history }) hs hlen) (endCollection_buffers _)
  | slotFilled p bytes answers history hf hwait hlen =>
    exact InvBuffers.of_same (InvBuffers.storeSlot (s := { s with answers, history }) hs hlen) rfl
  | slotWasted detail bytes answers history hf hwait hlen =>
    exact InvBuffers.of_same (InvBuffers.storeSlot (s := { s with answers, history }) hs hlen) rfl
  | slotsDone => exact hs.of_same (endCollection_buffers s)
  | failed e series hf hseries =>
    rcases hseries with rfl | rfl
    · exact hs.of_same (raise_buffers e { s with reply := [] })
    · obtain ⟨-, -, hrest⟩ := hs
      exact InvBuffers.of_same (s := { s with reply := [], series := [] }) ⟨Nat.zero_le _, nofun, hrest⟩
        (raise_buffers e _)
  | reassembled w count hf hw => exact (hs.storeSeries hw count).of_same rfl
  | openFailed answers history => exact hs.of_same (raise_buffers _ { s with answers, history })
  | closeFailed answers history =>
    exact hs.of_same (raise_buffers _ (clearSession { s with answers, history, link := false }))
  | notSent => exact hs.of_same rfl
  | checked => exact hs.of_same rfl
  | drained => exact hs.of_same rfl
  | written => exact hs.of_same rfl
  | writeFailed => exact hs.of_same rfl
  | backedOff => exact hs.of_same rfl
  | ended => exact hs.of_same rfl
  | latched => exact hs.of_same rfl
  | reopening => exact hs.of_same rfl
  | opened => exact hs.of_same rfl
  | closed => exact hs.of_same rfl

theorem InvBuffers.settle {s : State} (hs : InvBuffers s) : InvBuffers (settle s) :=
  settle_keeps (fun _ _ => Transition.keeps_invBuffers) hs

theorem Executed.keeps_invBuffers {s t : State} (hs : InvBuffers s) (h : Executed s t) : InvBuffers t := by
  obtain ⟨hseries, hvalues, hbal, hfault, hidx⟩ := hs
  have hs : InvBuffers s := ⟨hseries, hvalues, hbal, hfault, hidx⟩
  cases h with
  | refused e reply series bal hc hx hr hser hb =>
    have hseries' : series.length ≤ 255 ∧ ∀ v ∈ series, -32768 ≤ v ∧ v ≤ 32767 := by
      rcases hser with rfl | rfl
      · exact ⟨hseries, hvalues⟩
      · exact ⟨Nat.zero_le _, nofun⟩
    have hbal' : bal.length ≤ 64 := by
      rcases hb with rfl | rfl
      · exact hbal
      · exact Nat.zero_le _
    exact InvBuffers.of_same (s := { s with reply, series, bal })
      ⟨hseries'.1, hseries'.2, hbal', hfault, hidx⟩ (raise_buffers e _)
  | reassembled w count hw => exact (hs.storeSeries hw count).of_same rfl
  | balanced p cells flags hflags => exact ⟨hseries, hvalues, balancing_length hflags, hfault, hidx⟩
  | faulted p => exact ⟨hseries, hvalues, hbal, faults_length_le _ p, hidx⟩
  | computed => exact hs.of_same rfl
  | configured => exact hs.of_same rfl
  | closed => exact hs.of_same rfl
  | reopening => exact InvBuffers.settle (s := { s with running := some .openClosing }) hs
  | opening => exact InvBuffers.settle (s := clearSession { s with running := some .openOpening }) hs
  | closing => exact InvBuffers.settle (s := { s with running := some .closing }) hs
  | exchange op cmd extra n r resPages =>
    exact InvBuffers.settle (s := startExchange op cmd extra n r { s with resPages }) hs

/-- Settles O60: each buffer's writer keeps its width, and the rest leave the buffers alone. The reassembler looks at no
more pages than a one-byte count needs, so the bound on EXP_IDX holds whatever the replies. -/
theorem stepKeepsTheBufferWidths : Obligations.StepKeepsTheBufferWidths :=
  fun _ _ _ hs h => step_keeps resetBlock_invBuffers (fun _ _ hu => hu) (fun _ _ => Transition.keeps_invBuffers)
    (fun u _ _ hu hexec => Executed.keeps_invBuffers (s := { u with engBusy := true }) hu hexec) hs h

end Sys2Proof.Machine

/-! PROOFS. The state machine run by the six exchange operations is their pseudo-code (spec/41_dispatcher.md R150, R151,
spec/43_session_queries.md R210 to R220): a simulation, part by part, between a run of transitions and the loops of the
pseudo-code. First, a STATUS_QUERY that fails (R30, R214). -/

namespace Sys2Proof.Machine

/-! ### What each of the six runs on a block that is not busy -/

section
variable {s : State} (h : s.engBusy = false)
include h

theorem exec_send_idle (cmd n r : Byte) (extra : List Byte) : exec (.send cmd n r extra) s =
    .next (settle (startExchange .send cmd extra n r { s with engBusy := true })) := by
  show execSend cmd n r extra s = _
  exact accept_idle h

theorem exec_statusQuery_idle : exec .statusQuery s =
    .next (settle (startExchange .statusQuery s.params.cmd.status [] 1 s.retries { s with engBusy := true })) := by
  show execStatusQuery s = _
  exact accept_idle h

theorem exec_queryCells_idle : exec .queryCells s = .next
    (paginated .cells .queryCells s.params.cmd.cellVoltages (sessionCells s) { s with engBusy := true }) := by
  show execQueryCells s = _
  exact accept_idle h

theorem exec_queryTemps_idle : exec .queryTemps s = .next
    (paginated .temperatures .queryTemps s.params.cmd.temperatures (sessionSensors s) { s with engBusy := true }) := by
  show execQueryTemps s = _
  exact accept_idle h

theorem exec_query_idle (cmd : Byte) : exec (.query cmd) s =
    .next (settle (startExchange .query cmd [] 1 s.retries { s with engBusy := true })) := by
  show execQuery cmd s = _
  exact accept_idle h

theorem exec_set_idle (cmd : Byte) (extra : List Byte) : exec (.set cmd extra) s =
    .next (settle (startExchange .set cmd extra 1 s.retries { s with engBusy := true })) := by
  show execSet cmd extra s = _
  exact accept_idle h

end

/-! ### A STATUS_QUERY that fails -/

/-- Where a run of STATUS_QUERY from `s` can be: still running with the session as it was, or ended, with success or with
the session as it was. -/
def StatusQueryRun (s t : State) : Prop :=
  (t.running = some .statusQuery ∧ SameSession s t) ∨ (Idle t ∧ (t.engErr = 0 ∨ SameSession s t))

theorem complete_statusQueryRun (s u : State) : StatusQueryRun s (complete u) := .inr ⟨⟨rfl, rfl, rfl⟩, .inl rfl⟩

theorem raise_statusQueryRun {s u : State} (e : Err) (h : SameSession s u) : StatusQueryRun s (raise e u) :=
  .inr ⟨by simp [Idle], .inr (by simpa [SameSession] using h)⟩

theorem endCollection_statusQueryRun {s u : State} (hrun : u.running = some .statusQuery) (h : SameSession s u) :
    StatusQueryRun s (endCollection u) := by
  rcases endCollection_cases u with ⟨-, heq⟩ | ⟨-, heq⟩ <;> rw [heq] <;> exact .inl ⟨hrun, h⟩

theorem advance_statusQueryRun {s u t : State} (hu : StatusQueryRun s u) (hadv : advance u = some t) :
    StatusQueryRun s t := by
  rcases hu with ⟨hrun, hsame⟩ | ⟨⟨-, hfsm, hnone⟩, -⟩
  · have hother : ∀ op, op ≠ Running.statusQuery → u.running ≠ some op := fun op hop he =>
      hop (Option.some.inj (he.symm.trans hrun))
    cases advance_transition hadv with
    | slotsDone => exact endCollection_statusQueryRun hrun hsame
    | readEnded => exact endCollection_statusQueryRun hrun hsame
    | failed => exact raise_statusQueryRun _ hsame
    | ended => exact complete_statusQueryRun _ _
    | latched => exact complete_statusQueryRun _ _
    | reassembled => exact complete_statusQueryRun _ _
    | reopening _ _ _ hr => exact absurd hr (hother _ nofun)
    | opened _ _ _ hr => exact absurd hr (hother _ nofun)
    | openFailed _ _ _ hr => exact absurd hr (hother _ nofun)
    | closed _ _ _ hr => exact absurd hr (hother _ nofun)
    | closeFailed _ _ _ hr => exact absurd hr (hother _ nofun)
    | notSent => exact .inl ⟨hrun, hsame⟩
    | checked => exact .inl ⟨hrun, hsame⟩
    | drained => exact .inl ⟨hrun, hsame⟩
    | written => exact .inl ⟨hrun, hsame⟩
    | writeFailed => exact .inl ⟨hrun, hsame⟩
    | slotFilled => exact .inl ⟨hrun, hsame⟩
    | slotWasted => exact .inl ⟨hrun, hsame⟩
    | backedOff => exact .inl ⟨hrun, hsame⟩
  · rw [advance_idle hfsm hnone] at hadv
    cases hadv

/-- Settles O47: a run of STATUS_QUERY writes the session at its successful end alone. -/
theorem aFailedStatusQueryKeepsTheSession : Obligations.AFailedStatusQueryKeepsTheSession := by
  intro s t hidle h hfail
  obtain ⟨hbusy, -, -⟩ := hidle
  rw [exec_statusQuery_idle hbusy] at h
  cases h
  have hrun := settle_induct (P := StatusQueryRun s) (fun _ _ => advance_statusQueryRun)
    (s := startExchange .statusQuery s.params.cmd.status [] 1 s.retries { s with engBusy := true })
    (.inl ⟨rfl, rfl, rfl⟩)
  rcases hrun with ⟨-, hsame⟩ | ⟨⟨hidle, -, -⟩, hok | hsame⟩
  · exact hsame
  · exact hfail.elim (fun hb => absurd (hidle.symm.trans hb) nofun) (fun he => absurd hok he)
  · exact hsame

/-! ### The pseudo-code's parts -/

/-- The state once the drain's answer is in (R153). -/
def afterDrain (d : Answer) (s : State) : State :=
  if d.err then emitLog (.drainFailed s.xCmd) (emit (.drain d.err) (dropReply s)) else emit (.drain d.err) (dropReply s)

/-- The verdict on a collection: it succeeds with a reply (R158, R160). -/
def refCollected (t : State) : State × Bool :=
  if t.reply = [] then (refFail .noValidFrames t.lastDetail 0 t, false) else (t, true)

/-- R151's `Attempt()` from the write's answer on. -/
def refWrite (w : Answer) (s : State) : Option (State × Bool) :=
  if w.err then some (refFail .transportError 0 0 (emit (.write s.txbuf w.count w.err) s), false)
  else if w.count ≠ 13 then
    some (refFail .writeError 0 (BitVec.ofNat 8 (min w.count 255)) (emit (.write s.txbuf w.count w.err) s), false)
  else
    (refSlots s.xN.toNat { emit (.write s.txbuf w.count w.err) s with lastDetail := detailCode .none }).map refCollected

theorem refAttempt_nil {s : State} (h : s.answers = []) : refAttempt s = none := by
  simp [refAttempt, h]

theorem refAttempt_one {s : State} {d : Answer} (h : s.answers = [d]) : refAttempt s = none := by
  obtain ⟨count, bytes, err⟩ := d
  cases s
  cases h
  cases err <;> rfl

/-- A match whose result is wrapped is the map. -/
theorem match_refCollected (o : Option State) :
    (match o with
      | none => none
      | some t => if t.reply = [] then some (refFail .noValidFrames t.lastDetail 0 t, false) else some (t, true)) =
    o.map refCollected := by
  cases o with
  | none => rfl
  | some t =>
    simp only [Option.map_some, refCollected]
    split <;> rfl

theorem refAttempt_two {s : State} {d w : Answer} {rest : List Answer} (h : s.answers = d :: w :: rest) :
    refAttempt s = refWrite w (afterDrain d { s with answers := rest }) := by
  unfold refWrite
  rw [← match_refCollected]
  obtain ⟨count, bytes, err⟩ := d
  cases s
  cases h
  cases err <;> rfl

section
variable {s : State} {a : Answer} {rest : List Answer} (h : s.answers = a :: rest) (k : Nat)
include h

theorem refSlots_error (herr : a.err = true) :
    refSlots (k + 1) s = some { readSlot a { s with answers := rest } with lastDetail := detailCode .readError } := by
  simp only [refSlots, h, herr, if_true]
  rw [readSlot, readEvent, herr]
  rfl

theorem refSlots_noData (herr : a.err = false) (hlen : (readBytes a).length = 0) :
    refSlots (k + 1) s = some { readSlot a { s with answers := rest } with lastDetail := detailCode .noData } := by
  simp only [refSlots, h, herr, hlen, if_true, Bool.false_eq_true, if_false]
  rw [readSlot, readEvent, herr]
  rfl

theorem refSlots_short (herr : a.err = false) (hpos : (readBytes a).length ≠ 0) (hlen : (readBytes a).length < 13) :
    refSlots (k + 1) s = some { emitLog (.shortRead (readBytes a).length) (readSlot a { s with answers := rest }) with
      lastDetail := detailCode .shortRead } := by
  simp only [refSlots, h, herr, hpos, hlen, if_true, Bool.false_eq_true, if_false]
  rw [readSlot, readEvent, herr]
  rfl

theorem refSlots_valid {p : Payload} (herr : a.err = false) (hdec : codecDecode (readBytes a) s.xCmd = .ok p) :
    refSlots (k + 1) s =
      refSlots k { readSlot a { s with answers := rest } with reply := s.reply ++ [p] } := by
  obtain ⟨hlen, -⟩ := codecDecode_ok.mp hdec
  simp only [refSlots, h, herr, hlen, hdec, Bool.false_eq_true, if_false, Nat.lt_irrefl]
  rw [readSlot, readEvent, herr]
  rfl

theorem refSlots_invalid {e : Err} (herr : a.err = false) (hlen : ¬ (readBytes a).length < 13)
    (hdec : codecDecode (readBytes a) s.xCmd = .error e) :
    refSlots (k + 1) s =
      refSlots k { readSlot a { s with answers := rest } with lastDetail := detailCode (slotDetail e) } := by
  have hpos : (readBytes a).length ≠ 0 := by omega
  simp only [refSlots, h, herr, hpos, hlen, hdec, Bool.false_eq_true, if_false]
  rw [readSlot, readEvent, herr]
  rfl

end

/-! ### The state machine over a state of the pseudo-code -/

/-- A pseudo-code's state as the block holds it while `op` runs: busy, in state `f` of the exchange machine, with its own
two loop counters. -/
def held (op : Running) (f : Fsm) (attempt slot : Byte) (slotCarry : Bool) (s : State) : State :=
  { s with engBusy := true, running := some op, fsm := f, attempt, slot, slotCarry }

theorem held_with_answers (op : Running) (f : Fsm) (k j : Byte) (c : Bool) (s : State) (as : List Answer) :
    ({ held op f k j c s with answers := as } : State) = held op f k j c { s with answers := as } := rfl

/-- The run from `u` waits for an answer where a part of the pseudo-code has no result, and otherwise goes on from a state
that fits the result. -/
def Continues {α : Type} (u : State) (fits : α → State → Prop) : Option α → Prop
  | none => (settle u).engBusy = true
  | some x => ∃ v, fits x v ∧ settle u = settle v

section
variable {α β : Type} {u v : State} {fits : α → State → Prop}

theorem continues_of_advance {o : Option α} (hadv : advance u = some v) (h : Continues v fits o) :
    Continues u fits o := by
  cases o with
  | none => exact (congrArg State.engBusy (settle_advance hadv)).trans h
  | some x =>
    obtain ⟨w, hfits, heq⟩ := h
    exact ⟨w, hfits, (settle_advance hadv).trans heq⟩

theorem continues_some {x : α} (h : fits x u) : Continues u fits (some x) := ⟨u, h, rfl⟩

theorem continues_none (hadv : advance u = none) (hbusy : u.engBusy = true) : Continues u fits none := by
  rw [Continues, settle_rest hadv, hbusy]

/-- A part with its result named otherwise. -/
theorem Continues.map {fits' : β → State → Prop} {o : Option α} {f : α → β} (h : Continues u fits o)
    (hf : ∀ x w, fits x w → fits' (f x) w) : Continues u fits' (o.map f) := by
  cases o with
  | none => exact h
  | some x =>
    obtain ⟨w, hfits, heq⟩ := h
    exact ⟨w, hf x w hfits, heq⟩

theorem Continues.imp {fits' : α → State → Prop} {o : Option α} (h : Continues u fits o)
    (hf : ∀ x w, fits x w → fits' x w) : Continues u fits' o := by
  simpa using h.map (f := id) hf

/-- Parts in sequence. -/
theorem Continues.bind {fits' : β → State → Prop} {o : Option α} {f : α → Option β} (h : Continues u fits o)
    (hf : ∀ x w, fits x w → Continues w fits' (f x)) : Continues u fits' (o.bind f) := by
  cases o with
  | none => exact h
  | some x =>
    obtain ⟨w, hfits, heq⟩ := h
    have hnext := hf x w hfits
    rw [Option.bind_some]
    cases hx : f x with
    | none =>
      rw [hx] at hnext
      exact (congrArg State.engBusy heq).trans hnext
    | some y =>
      rw [hx] at hnext
      obtain ⟨w', hfits', heq'⟩ := hnext
      exact ⟨w', hfits', heq.trans heq'⟩

end

/-! ### The slots of an attempt -/

theorem advance_slot_waiting {s : State} (hf : s.fsm = .collect) (hs : slotsTaken s = false) (ha : s.answers = []) :
    advance s = none := by simp [advance, hf, hs, withAnswer_nil ha]

theorem decodeSlot_ok {bytes : List Byte} {s : State} {p : Payload} (h : codecDecode bytes s.xCmd = .ok p) :
    decodeSlot bytes s = takeSlot { s with reply := s.reply ++ [p] } := by simp [decodeSlot, h]

theorem decodeSlot_error {bytes : List Byte} {s : State} {e : Err} (h : codecDecode bytes s.xCmd = .error e) :
    decodeSlot bytes s = takeSlot { s with lastDetail := detailCode (slotDetail e) } := by simp [decodeSlot, h]

section
variable (op : Running) (k : Byte)

/-- Where a collection that the pseudo-code ends in `t'` leaves the machine. -/
def SlotsFit (bound : Byte) (t' v : State) : Prop := t'.rEff = bound ∧ ∃ j c, v = endCollection (held op .collect k j c t')

/-- The machine's slots are the pseudo-code's `for SLOT in 1 .. X.N`, with `m` of them left (R150, R151). -/
theorem slots_continue : ∀ (m : Nat) (t : State) (j : Byte) (c : Bool),
    slotNumber (held op .collect k j c t) + m = t.xN.toNat + 1 →
    Continues (held op .collect k j c t) (SlotsFit op k t.rEff) (refSlots m t) := by
  intro m
  induction m with
  | zero =>
    intro t j c hnum
    have htaken : slotsTaken (held op .collect k j c t) = true :=
      slotsTaken_eq_true.mpr (by show t.xN.toNat < _; omega)
    exact continues_of_advance (advance_collected rfl htaken) (continues_some ⟨rfl, j, c, rfl⟩)
  | succ m ih =>
    intro t j c hnum
    have hwait : slotsTaken (held op .collect k j c t) = false :=
      slotsTaken_eq_false.mpr (by show _ ≤ t.xN.toNat; omega)
    have hcarry : c = false := slotCarry_of_waiting hwait
    cases hans : t.answers with
    | nil =>
      rw [show refSlots (m + 1) t = none by simp [refSlots, hans]]
      exact continues_none (advance_slot_waiting rfl hwait hans) rfl
    | cons a rest =>
      refine continues_of_advance (advance_slot rfl hwait hans) ?_
      have hnext : slotNumber (held op .collect k (j + 1) (decide (j = 0xFF)) t) + m = t.xN.toNat + 1 := by
        have := slotNumber_takeSlot (s := held op .collect k j c t) hcarry
        rw [show takeSlot (held op .collect k j c t) = held op .collect k (j + 1) (decide (j = 0xFF)) t from rfl] at this
        omega
      by_cases herr : a.err = true
      · rw [refSlots_error hans m herr, slotStep_error herr]
        exact continues_some ⟨rfl, j, c, rfl⟩
      · rw [Bool.not_eq_true] at herr
        by_cases hzero : (readBytes a).length = 0
        · rw [refSlots_noData hans m herr hzero, slotStep_noData herr hzero]
          exact continues_some ⟨rfl, j, c, rfl⟩
        · by_cases hlen : (readBytes a).length < 13
          · rw [refSlots_short hans m herr hzero hlen, slotStep_short herr hzero hlen]
            exact continues_some ⟨rfl, j, c, rfl⟩
          · rw [slotStep_frame herr hlen]
            cases hdec : codecDecode (readBytes a) t.xCmd with
            | ok p =>
              rw [refSlots_valid hans m herr hdec,
                decodeSlot_ok (s := readSlot a { held op .collect k j c t with answers := rest }) hdec]
              exact ih { readSlot a { t with answers := rest } with reply := t.reply ++ [p] } _ _ hnext
            | error e =>
              rw [refSlots_invalid hans m herr hlen hdec,
                decodeSlot_error (s := readSlot a { held op .collect k j c t with answers := rest }) hdec]
              exact ih { readSlot a { t with answers := rest } with lastDetail := detailCode (slotDetail e) } _ _ hnext

/-! ### An attempt -/

/-- Where an attempt that the pseudo-code ends with `r` leaves the machine: success goes to FINISH with a reply, failure to
the backoff or to FINISH after the last attempt (R158). -/
def AttemptFits (bound : Byte) (r : State × Bool) (v : State) : Prop :=
  r.1.rEff = bound ∧ (r.2 = true → r.1.reply ≠ []) ∧ ∃ j c,
    v = held op (if r.2 then .finish none else if k < bound then .backoff else .finish (some .exchangeFailed)) k j c r.1

/-- The end of a collection is the pseudo-code's verdict. -/
theorem refCollected_fits {bound : Byte} {t v : State} (h : SlotsFit op k bound t v) :
    AttemptFits op k bound (refCollected t) v := by
  obtain ⟨hr, j, c, rfl⟩ := h
  unfold refCollected
  split
  · rename_i hnil
    refine ⟨hr, nofun, j, c, ?_⟩
    rw [endCollection_empty (by exact hnil), ← hr]
    rfl
  · rename_i hsome
    refine ⟨hr, fun _ => hsome, j, c, ?_⟩
    rw [endCollection_some (by exact hsome)]
    rfl

/-- The machine's WRITE and slots are the pseudo-code's attempt from the write's answer on (R154). -/
theorem write_continues (w : Answer) (t : State) (j : Byte) (c : Bool) :
    Continues (writeStep w (held op .write k j c t)) (AttemptFits op k t.rEff) (refWrite w t) := by
  unfold refWrite
  by_cases herr : w.err = true
  · rw [if_pos herr, writeStep]
    simp only [if_pos herr]
    exact continues_some ⟨rfl, nofun, j, c, rfl⟩
  · rw [if_neg herr, writeStep]
    simp only [if_neg herr]
    by_cases hcount : w.count = 13
    · rw [if_neg (by simpa using hcount), if_neg (by simpa using hcount)]
      exact (slots_continue op k t.xN.toNat
        { emit (.write t.txbuf w.count w.err) t with lastDetail := detailCode .none } 1 false
        (Nat.add_comm 1 t.xN.toNat)).map fun _ _ => refCollected_fits op k
    · rw [if_pos hcount, if_pos hcount]
      exact continues_some ⟨rfl, nofun, j, c, rfl⟩

theorem drainStep_held (d : Answer) (t : State) (j : Byte) (c : Bool) :
    drainStep d (held op .drain k j c t) = held op .write k j c (afterDrain d t) := by
  obtain ⟨count, bytes, err⟩ := d
  cases err <;> rfl

theorem afterDrain_with_answers (d : Answer) (s : State) (as : List Answer) :
    ({ afterDrain d s with answers := as } : State) = afterDrain d { s with answers := as } := by
  obtain ⟨count, bytes, err⟩ := d
  cases err <;> rfl

theorem afterDrain_answers (d : Answer) (s : State) : (afterDrain d s).answers = s.answers := by
  unfold afterDrain
  split <;> rfl

theorem afterDrain_rEff (d : Answer) (s : State) : (afterDrain d s).rEff = s.rEff := by
  unfold afterDrain
  split <;> rfl

/-- The machine's attempt is R151's `Attempt()`. -/
theorem attempt_continues (t : State) (j : Byte) (c : Bool) :
    Continues (held op .drain k j c t) (AttemptFits op k t.rEff) (refAttempt t) := by
  cases hans : t.answers with
  | nil =>
    rw [refAttempt_nil hans]
    exact continues_none (advance_waiting hans (.inl rfl)) rfl
  | cons d rest =>
    refine continues_of_advance (advance_drain rfl hans) ?_
    rw [held_with_answers, drainStep_held]
    have hanswers := afterDrain_answers d { t with answers := rest }
    cases rest with
    | nil =>
      rw [refAttempt_one hans]
      exact continues_none (advance_waiting hanswers (.inr rfl)) rfl
    | cons w rest =>
      refine continues_of_advance (advance_write rfl hanswers) ?_
      have hwrite := write_continues op k w (afterDrain d { t with answers := rest }) j c
      rw [afterDrain_rEff] at hwrite
      rw [refAttempt_two hans, held_with_answers, afterDrain_with_answers]
      exact hwrite

end

/-! ### The attempts -/

section
variable (op : Running)

/-- Where an exchange whose attempts the pseudo-code ends with `r` leaves the machine: in FINISH, with success and a reply
or with `ExchangeFailed` (R150, R159). -/
def LoopFits (r : State × Bool) (v : State) : Prop :=
  (r.2 = true → r.1.reply ≠ []) ∧ ∃ k j c,
    v = held op (.finish (if r.2 then none else some .exchangeFailed)) k j c r.1

theorem refLoop_succ (n : Nat) (t : State) :
    refLoop (n + 1) t = (refAttempt t).bind fun r =>
      if r.2 then some (r.1, true) else refLoop n (emit (.delay Config.backoffMs) r.1) := by
  rw [refLoop]
  cases refAttempt t with
  | none => rfl
  | some r =>
    obtain ⟨u, ok⟩ := r
    cases ok <;> rfl

/-- The machine's attempts from number `k` on are the pseudo-code's loop with `n` attempts after that one (R151, R152). -/
theorem loop_continues : ∀ (n : Nat) (t : State) (k j : Byte) (c : Bool), k.toNat + n = t.rEff.toNat →
    Continues (held op .drain k j c t) (LoopFits op) (refLoop n t) := by
  intro n
  induction n with
  | zero =>
    intro t k j c hk
    have hlast : ¬ k < t.rEff := by bv_omega
    rw [refLoop]
    refine (attempt_continues op k t j c).imp ?_
    rintro ⟨u, ok⟩ w ⟨-, hreply, j', c', rfl⟩
    refine ⟨hreply, k, j', c', ?_⟩
    cases ok
    · simp only [if_neg hlast]
      rfl
    · rfl
  | succ n ih =>
    intro t k j c hk
    have hmore : k < t.rEff := by bv_omega
    rw [refLoop_succ]
    refine (attempt_continues op k t j c).bind ?_
    rintro ⟨u, ok⟩ w ⟨hr, hreply, j', c', rfl⟩
    cases ok with
    | true => exact continues_some ⟨hreply, k, j', c', rfl⟩
    | false =>
      simp only [if_pos hmore]
      refine continues_of_advance (advance_backoff rfl) ?_
      refine ih (emit (.delay Config.backoffMs) u) (k + 1) j' c' ?_
      rw [emit_rEff]
      dsimp only at hr
      rw [hr]
      bv_omega

end

/-! ### The six operations -/

theorem checkStep_closed {s : State} (h : s.link = false) :
    checkStep s = { s with fsm := .finish (some .notOpen) } := by simp [checkStep, h]

theorem checkStep_error {s : State} {e : Err} (h : s.link = true)
    (henc : codecEncode s.params s.addrVariant s.xCmd (s.xExtra ++ s.xRest) = .error e) :
    checkStep s = { s with fsm := .finish (some e) } := by simp [checkStep, h, henc]

theorem checkStep_ok {s : State} {f : Frame} (h : s.link = true)
    (henc : codecEncode s.params s.addrVariant s.xCmd (s.xExtra ++ s.xRest) = .ok f) :
    checkStep s = { s with txbuf := f, attempt := 1, fsm := .drain } := by simp [checkStep, h, henc]

/-- What the run has ended in agrees with the pseudo-code's end, up to the loop counters, or is busy where it has none. -/
def EndsAs (u : State) : Option State → Prop
  | none => u.engBusy = true
  | some t => hideCounters u = hideCounters t

theorem followsPseudocode_of_endsAs {i : Instr} {s u : State} {pseudocode : Option State} (h : exec i s = .next u)
    (hends : EndsAs u pseudocode) : FollowsPseudocode i s pseudocode := by
  cases pseudocode with
  | none => exact ⟨u, h, hends⟩
  | some t => exact ⟨u, h, hends⟩

/-- What the machine does at FINISH for `op` is what its pseudo-code clears on an error and goes on to on success (R210,
R263). -/
structure FinishesAs (op : Running) (cleared after : State → State) : Prop where
  cleared : ∀ f k j c t, clearFailedExchange (held op f k j c t) = held op f k j c (cleared t)
  after : ∀ f k j c t, t.reply ≠ [] → afterExchange (held op f k j c t) = held op f k j c (after t)

theorem hideCounters_complete_held (op : Running) (f : Fsm) (k j : Byte) (c : Bool) (t : State) :
    hideCounters (complete (held op f k j c t)) = hideCounters (complete t) := rfl

theorem hideCounters_raise_held (e : Err) (op : Running) (f : Fsm) (k j : Byte) (c : Bool) (t : State) :
    hideCounters (raise e (held op f k j c t)) = hideCounters (raise e t) := by
  by_cases h : e = .exchangeFailed
  · subst h
    rfl
  · rw [raise_eq h, raise_eq h]
    rfl

/-- FINISH ends the run. -/
theorem settle_finish {s : State} {e : Option Err} (h : s.fsm = .finish e) : settle s = finishStep e s := by
  rw [settle_advance (advance_finish h)]
  refine settle_rest (advance_idle (finishStep_fsm e s) ?_)
  cases e with
  | none => exact complete_running _
  | some err => exact raise_running _ _

/-- A match on how the attempts ended is the map. -/
theorem match_attemptsEnd (cleared after : State → State) (o : Option (State × Bool)) :
    (match o with
      | none => none
      | some (t, true) => some (complete (after t))
      | some (t, false) => some (raise .exchangeFailed (cleared t))) =
    o.map fun r => if r.2 then complete (after r.1) else raise .exchangeFailed (cleared r.1) := by
  cases o with
  | none => rfl
  | some r =>
    obtain ⟨t, ok⟩ := r
    cases ok <;> rfl

/-- The state an exchange latches its operands in (R41, R150). -/
def latchedExchange (cmd : Byte) (extra : List Byte) (n r : Byte) (s : State) : State :=
  { s with xCmd := cmd, xExtra := extra.take 8, xRest := extra.drop 8, xN := n, rEff := clampRetries r }

theorem refExchange_closed {s : State} (cmd : Byte) (extra : List Byte) (n r : Byte) (cleared after : State → State)
    (h : s.link = false) :
    refExchange cmd extra n r cleared after s =
      some (raise .notOpen (cleared (latchedExchange cmd extra n r s))) := by
  simp [refExchange, h, latchedExchange]

theorem refExchange_error {s : State} {cmd : Byte} {extra : List Byte} {e : Err} (n r : Byte)
    (cleared after : State → State) (h : s.link = true) (henc : codecEncode s.params s.addrVariant cmd extra = .error e) :
    refExchange cmd extra n r cleared after s = some (raise e (cleared (latchedExchange cmd extra n r s))) := by
  simp [refExchange, h, henc, latchedExchange]

theorem refExchange_ok {s : State} {cmd : Byte} {extra : List Byte} {f : Frame} (n r : Byte)
    (cleared after : State → State) (h : s.link = true) (henc : codecEncode s.params s.addrVariant cmd extra = .ok f) :
    refExchange cmd extra n r cleared after s =
      (refLoop ((clampRetries r).toNat - 1) { latchedExchange cmd extra n r s with txbuf := f }).map fun x =>
        if x.2 then complete (after x.1) else raise .exchangeFailed (cleared x.1) := by
  unfold refExchange
  rw [if_neg (by simp [h]), henc]
  exact match_attemptsEnd cleared after _

section
variable {op : Running} {cleared after : State → State} (hop : FinishesAs op cleared after)
include hop

theorem settle_failed (e : Err) (k j : Byte) (c : Bool) (t : State) :
    EndsAs (settle (held op (.finish (some e)) k j c t)) (some (raise e (cleared t))) := by
  rw [settle_finish (e := some e) rfl, finishStep, hop.cleared]
  exact hideCounters_raise_held e _ _ _ _ _ _

theorem settle_succeeded {t : State} (k j : Byte) (c : Bool) (hreply : t.reply ≠ []) :
    EndsAs (settle (held op (.finish none) k j c t)) (some (complete (after t))) := by
  rw [settle_finish (e := none) rfl, finishStep, hop.after _ _ _ _ _ hreply]
  exact hideCounters_complete_held _ _ _ _ _ _

/-- The end of the attempts is the end of the pseudo-code (R159, R210). -/
theorem endsAs_of_loop {u : State} {o : Option (State × Bool)} (h : Continues u (LoopFits op) o) :
    EndsAs (settle u) (o.map fun r => if r.2 then complete (after r.1) else raise .exchangeFailed (cleared r.1)) := by
  cases o with
  | none => exact h
  | some r =>
    obtain ⟨t, ok⟩ := r
    obtain ⟨v, ⟨hreply, k, j, c, rfl⟩, heq⟩ := h
    rw [heq]
    cases ok with
    | true => exact settle_succeeded hop k j c (hreply rfl)
    | false => exact settle_failed hop .exchangeFailed k j c t

/-- The exchange as the machine runs it is the exchange of the pseudo-code (R150, R151). -/
theorem exchange_endsAs (cmd : Byte) (extra : List Byte) (n r : Byte) (s : State) :
    EndsAs (settle (startExchange op cmd extra n r { s with engBusy := true }))
      (refExchange cmd extra n r cleared after s) := by
  have hstart : startExchange op cmd extra n r { s with engBusy := true } =
      held op .check s.attempt s.slot s.slotCarry (latchedExchange cmd extra n r s) := rfl
  have hlatched : extra.take 8 ++ extra.drop 8 = extra := List.take_append_drop 8 extra
  have hencode : codecEncode s.params s.addrVariant cmd (extra.take 8 ++ extra.drop 8) =
      codecEncode s.params s.addrVariant cmd extra := congrArg _ hlatched
  rw [hstart, settle_advance (advance_check rfl)]
  cases hlink : s.link with
  | false =>
    rw [refExchange_closed _ _ _ _ _ _ hlink, checkStep_closed (by exact hlink)]
    exact settle_failed hop .notOpen s.attempt s.slot s.slotCarry (latchedExchange cmd extra n r s)
  | true =>
    cases henc : codecEncode s.params s.addrVariant cmd extra with
    | error e =>
      rw [refExchange_error n r cleared after hlink henc, checkStep_error (by exact hlink) (hencode.trans henc)]
      exact settle_failed hop e s.attempt s.slot s.slotCarry (latchedExchange cmd extra n r s)
    | ok f =>
      rw [refExchange_ok n r cleared after hlink henc, checkStep_ok (by exact hlink) (hencode.trans henc)]
      refine endsAs_of_loop hop
        (loop_continues op _ { latchedExchange cmd extra n r s with txbuf := f } 1 s.slot s.slotCarry ?_)
      have hbound := clampRetries_ne_zero r
      show 1 + ((clampRetries r).toNat - 1) = (clampRetries r).toNat
      bv_omega

end

/-- SEND, QUERY and SET have no last step of their own (R151, R219, R220). -/
theorem finishesAs_plain {op : Running} (h : op = .send ∨ op = .query ∨ op = .set) : FinishesAs op dropReply id := by
  rcases h with rfl | rfl | rfl <;> exact ⟨fun _ _ _ _ _ => rfl, fun _ _ _ _ _ _ => rfl⟩

/-- STATUS_QUERY latches the first reply (R214). -/
theorem finishesAs_statusQuery : FinishesAs .statusQuery dropReply
    (fun t => { t with sessionStatus := t.reply.headD t.sessionStatus, sessionValid := true }) := by
  refine ⟨fun _ _ _ _ _ => rfl, fun f k j c t hreply => ?_⟩
  obtain ⟨p, ps, hp⟩ := List.exists_cons_of_ne_nil hreply
  show latchStatus (held .statusQuery f k j c t) = _
  simp [latchStatus, held, hp]

/-- What a paginated query clears on an error (R263). -/
def clearedPages (t : State) : State := { t with reply := [], series := [] }

/-- What a paginated query goes on to do on success: its pages reassembled (R216, R217). -/
def reassembledPages (w count : Nat) (t : State) : State :=
  { t with
    series := seriesOf w count t.reply
    expIdx := BitVec.ofNat 9 (1 + (pagesLookedAt w count t.reply).length)
    history := t.history ++ pageLogs (pagesLookedAt w count t.reply) }

theorem finishesAs_queryCells (count : Byte) :
    FinishesAs (.queryCells count) clearedPages (reassembledPages 2 count.toNat) :=
  ⟨fun _ _ _ _ _ => rfl, fun f k j c t _ => storeSeries_closed (.inr rfl) count (held (.queryCells count) f k j c t)⟩

theorem finishesAs_queryTemps (count : Byte) :
    FinishesAs (.queryTemps count) clearedPages (reassembledPages 1 count.toNat) :=
  ⟨fun _ _ _ _ _ => rfl, fun f k j c t _ => storeSeries_closed (.inl rfl) count (held (.queryTemps count) f k j c t)⟩

/-- A paginated query without a session ends at once (R225). -/
theorem refPaginated_no_session {s : State} (h : s.sessionValid = false) (cmd pages : Byte) (w count : Nat) :
    refPaginated cmd pages w count s = some (raise .prerequisiteMissing (clearedPages s)) := by
  rw [refPaginated, if_pos h]
  rfl

/-- A paginated query with a session is its exchange (R216, R217). -/
theorem refPaginated_session {s : State} (h : s.sessionValid = true) (cmd pages : Byte) (w count : Nat) :
    refPaginated cmd pages w count s =
      refExchange cmd [] pages s.retries clearedPages (reassembledPages w count) { s with resPages := pages } := by
  rw [refPaginated, if_neg (by simp [h])]
  rfl

/-- A paginated query is its pseudo-code, the missing session included (R216, R217, R225). -/
theorem paginated_endsAs {op : Byte → Running} {w : Nat} {count : Byte} (kind : PageKind) (cmd : Byte) (s : State)
    (hop : FinishesAs (op count) clearedPages (reassembledPages w count.toNat)) :
    EndsAs (paginated kind op cmd count { s with engBusy := true })
      (refPaginated cmd (BitVec.ofNat 8 (pagePlan kind s)) w count.toNat s) := by
  rcases Bool.eq_false_or_eq_true s.sessionValid with hsession | hsession
  · rw [paginated, if_pos (by exact hsession), refPaginated_session hsession]
    exact exchange_endsAs hop cmd [] (BitVec.ofNat 8 (pagePlan kind s)) s.retries
      { s with resPages := BitVec.ofNat 8 (pagePlan kind s) }
  · rw [paginated, if_neg (by simp [hsession]), refPaginated_no_session hsession]
    exact congrArg hideCounters (raise_with_engBusy .prerequisiteMissing (clearedPages s) true)

/-- Settles O37: each operation is accepted and runs its exchange, or refuses for want of a session, as its pseudo-code
does. -/
theorem sendIsItsPseudocode : Obligations.SendIsItsPseudocode := by
  intro s hidle
  obtain ⟨hbusy, -, -⟩ := hidle
  refine ⟨fun cmd n r extra => ?_, ?_, ?_, ?_, fun cmd => ?_, fun cmd extra => ?_⟩
  · exact followsPseudocode_of_endsAs (exec_send_idle hbusy cmd n r extra)
      (exchange_endsAs (finishesAs_plain (.inl rfl)) _ _ _ _ s)
  · exact followsPseudocode_of_endsAs (exec_statusQuery_idle hbusy) (exchange_endsAs finishesAs_statusQuery _ _ _ _ s)
  · exact followsPseudocode_of_endsAs (exec_queryCells_idle hbusy)
      (paginated_endsAs .cells _ s (finishesAs_queryCells _))
  · exact followsPseudocode_of_endsAs (exec_queryTemps_idle hbusy)
      (paginated_endsAs .temperatures _ s (finishesAs_queryTemps _))
  · exact followsPseudocode_of_endsAs (exec_query_idle hbusy cmd)
      (exchange_endsAs (finishesAs_plain (.inr (.inl rfl))) _ _ _ _ s)
  · exact followsPseudocode_of_endsAs (exec_set_idle hbusy cmd extra)
      (exchange_endsAs (finishesAs_plain (.inr (.inr rfl))) _ _ _ _ s)

end Sys2Proof.Machine

/-! PROOFS. The paginated queries whose every slot gets a valid frame (spec/43_session_queries.md R216 to R218): the
pseudo-code's exchange in closed form, read through the simulation of the state machine. -/

namespace Sys2Proof.Machine

/-! ### An exchange of valid frames in the pseudo-code -/

theorem afterDrain_eq (d : Answer) (s : State) :
    afterDrain d s = { s with reply := [], history := s.history ++ drainEvents s.xCmd d } := by
  cases herr : d.err <;> simp [afterDrain, drainEvents, herr, emit, emitLog, dropReply]

/-- Valid frames in every slot: the payloads in reception order, and a read a slot in the history (R157, R167). -/
theorem refSlots_validReads {rest : List Answer} : ∀ (reads : List Answer) (payloads : List Payload) (t : State),
    ValidReads t.xCmd reads payloads → t.answers = reads ++ rest →
    ∃ rxslot rxlen, refSlots reads.length t = some { t with
      answers := rest, reply := t.reply ++ payloads, history := t.history ++ reads.map readEvent, rxslot, rxlen } := by
  intro reads
  induction reads with
  | nil =>
    intro payloads t hvalid hans
    cases hvalid
    refine ⟨t.rxslot, t.rxlen, congrArg some ?_⟩
    rw [List.append_nil, List.map_nil, List.append_nil]
    exact congrArg (fun as => { t with answers := as }) hans
  | cons a reads ih =>
    intro payloads t hvalid hans
    rw [List.cons_append] at hans
    cases hvalid with
    | cons hfirst hvalid =>
      rename_i p payloads
      obtain ⟨herr, hdec⟩ := hfirst
      obtain ⟨rxslot, rxlen, hslots⟩ :=
        ih payloads { readSlot a { t with answers := reads ++ rest } with reply := t.reply ++ [p] } hvalid rfl
      refine ⟨rxslot, rxlen, ?_⟩
      rw [List.length_cons, refSlots_valid hans reads.length herr hdec, hslots]
      simp [readSlot, storeSlot]

/-- An attempt whose write is accepted and whose every slot gets a valid frame succeeds (R154 to R160). -/
theorem refAttempt_validReads {s : State} {d w : Answer} {reads rest : List Answer} {payloads : List Payload}
    (hans : s.answers = d :: w :: (reads ++ rest)) (hwrite : AcceptedWrite w) (hlen : reads.length = s.xN.toNat)
    (hsome : reads ≠ []) (hvalid : ValidReads s.xCmd reads payloads) (hcmd : s.txbuf.cmd = s.xCmd) :
    ∃ rxslot rxlen, refAttempt s = some ({ s with
      answers := rest, reply := payloads, history := s.history ++ attemptEvents s.txbuf d reads,
      lastDetail := 0, rxslot, rxlen }, true) := by
  obtain ⟨herr, hcount⟩ := hwrite
  have hpayloads : payloads ≠ [] := fun h => hsome (List.length_eq_zero_iff.mp (by rw [hvalid.length_eq, h]; rfl))
  obtain ⟨rxslot, rxlen, hslots⟩ := refSlots_validReads (rest := rest) reads payloads
    { s with
      answers := reads ++ rest, reply := [], lastDetail := 0
      history := s.history ++ drainEvents s.xCmd d ++ [.write s.txbuf 13 false] } hvalid rfl
  refine ⟨rxslot, rxlen, ?_⟩
  rw [refAttempt_two hans, afterDrain_eq, refWrite, if_neg (by simp [herr]), if_neg (by simp [hcount]), herr, hcount]
  show Option.map refCollected (refSlots s.xN.toNat _) = _
  rw [← hlen]
  refine (congrArg (Option.map refCollected) hslots).trans ?_
  simp [refCollected, hpayloads, attemptEvents, hcmd]

/-- The loop ends with its first attempt where that succeeds (R158). -/
theorem refLoop_of_success {s t : State} (h : refAttempt s = some (t, true)) (n : Nat) :
    refLoop n s = some (t, true) := by
  cases n with
  | zero => exact h
  | succ n => rw [refLoop_succ, h]; rfl

/-- An exchange whose first attempt gets a valid frame in each of its slots (R150 to R160). -/
theorem refExchange_validReads {s : State} {cmd n : Byte} {extra : List Byte} {d w : Answer} {reads rest : List Answer}
    {payloads : List Payload} (r : Byte) (cleared after : State → State) (hlink : s.link = true)
    (hextra : extra.length ≤ 8) (hn : n ≠ 0) (hans : s.answers = d :: w :: (reads ++ rest)) (hwrite : AcceptedWrite w)
    (hlen : reads.length = n.toNat) (hvalid : ValidReads cmd reads payloads) :
    ∃ rxslot rxlen, refExchange cmd extra n r cleared after s = some (complete (after
      { latchedExchange cmd extra n r s with
        txbuf := requestFrame s.params s.addrVariant cmd extra, answers := rest, reply := payloads
        history := s.history ++ attemptEvents (requestFrame s.params s.addrVariant cmd extra) d reads
        lastDetail := 0, rxslot, rxlen })) := by
  have hsome : reads ≠ [] := by
    rintro rfl
    exact hn (BitVec.eq_of_toNat_eq hlen.symm)
  obtain ⟨rxslot, rxlen, hattempt⟩ := refAttempt_validReads
    (s := { latchedExchange cmd extra n r s with txbuf := requestFrame s.params s.addrVariant cmd extra })
    hans hwrite hlen hsome hvalid rfl
  refine ⟨rxslot, rxlen, ?_⟩
  rw [refExchange_ok n r cleared after hlink (codecEncode_ok hextra), refLoop_of_success hattempt]
  rfl

/-! ### The paginated queries -/

/-- What a paginated query leaves once its exchange has collected the payloads: the pages reassembled, and what it does not
write unchanged (R216 to R218). -/
theorem collectedPages_of_endsAs {w count : Nat} {cmd : Byte} {pages : Byte} {s u : State} {payloads : List Payload}
    {events : List Event} {rest : List Answer} {rxslot : Frame} {rxlen : BitVec 4}
    (h : EndsAs u (some (complete (reassembledPages w count
      { latchedExchange cmd [] pages s.retries { s with resPages := pages } with
        txbuf := requestFrame s.params s.addrVariant cmd [], answers := rest, reply := payloads
        history := s.history ++ events, lastDetail := 0, rxslot, rxlen })))) :
    ExchangeDone cmd [] payloads s u ∧ u.resPages = pages ∧ u.series = seriesOf w count payloads ∧
      u.expIdx = BitVec.ofNat 9 (1 + (pagesLookedAt w count payloads).length) ∧
      SamePorts s u ∧ SameSession s u ∧ SameConfig s u ∧ SameOtherResults s u ∧ u.answers = rest ∧
      u.history = s.history ++ events ++ pageLogs (pagesLookedAt w count payloads) := by
  have heq : hideCounters u = hideCounters _ := h
  simp only [hideCounters, complete_eq, reassembledPages, latchedExchange, State.mk.injEq] at heq
  simp [ExchangeDone, Idle, EngClear, SamePorts, SameSession, SameConfig, SameOtherResults, heq]

/-- A paginated query whose first attempt gets a valid frame for each planned page. -/
theorem paginated_validReads {op : Byte → Running} {w : Nat} {count : Byte} {kind : PageKind} {cmd : Byte} {s : State}
    {d wr : Answer} {reads rest : List Answer} {payloads : List Payload}
    (hop : FinishesAs (op count) clearedPages (reassembledPages w count.toNat)) (hlink : s.link = true)
    (hsession : s.sessionValid = true) (hplan : pagePlan kind s ≠ 0) (hans : s.answers = d :: wr :: (reads ++ rest))
    (hwrite : AcceptedWrite wr) (hlen : reads.length = pagePlan kind s) (hvalid : ValidReads cmd reads payloads) :
    ∃ t, paginated kind op cmd count { s with engBusy := true } = t ∧ ExchangeDone cmd [] payloads s t ∧
      t.resPages.toNat = pagePlan kind s ∧ t.series = seriesOf w count.toNat payloads ∧
      t.expIdx = BitVec.ofNat 9 (1 + (pagesLookedAt w count.toNat payloads).length) ∧
      SamePorts s t ∧ SameSession s t ∧ SameConfig s t ∧ SameOtherResults s t ∧ t.answers = rest ∧
      t.history = s.history ++ attemptEvents (requestFrame s.params s.addrVariant cmd []) d reads ++
        pageLogs (pagesLookedAt w count.toNat payloads) := by
  have hpages := pagePlan_toNat kind s
  have hn : BitVec.ofNat 8 (pagePlan kind s) ≠ 0 := fun h => hplan (by rw [← hpages, h]; rfl)
  have hends := paginated_endsAs kind cmd s hop
  obtain ⟨rxslot, rxlen, href⟩ := refExchange_validReads (s := { s with resPages := BitVec.ofNat 8 (pagePlan kind s) })
    (extra := []) s.retries clearedPages (reassembledPages w count.toNat) hlink (Nat.zero_le 8) hn hans hwrite
    (hlen.trans hpages.symm) hvalid
  rw [refPaginated_session hsession, href] at hends
  obtain ⟨hdone, hres, hrest⟩ := collectedPages_of_endsAs hends
  exact ⟨_, rfl, hdone, (congrArg BitVec.toNat hres).trans hpages, hrest⟩

/-- Settles O43: a valid frame for each page, and the two-byte items of the pages (R216). -/
theorem queryCellsReassemblesTheCells : Obligations.QueryCellsReassemblesTheCells := by
  intro s d w reads rest payloads hidle hlink hsession hplan hans hwrite hlen hvalid
  obtain ⟨hbusy, -, -⟩ := hidle
  obtain ⟨t, hrun, hdone⟩ := paginated_validReads (kind := .cells) (finishesAs_queryCells (sessionCells s)) hlink
    hsession hplan hans hwrite hlen hvalid
  exact ⟨t, hrun ▸ exec_queryCells_idle hbusy, hdone⟩

/-- Settles O44: a valid frame for each page, and the one-byte items of the pages (R217). -/
theorem queryTempsReassemblesTheSensors : Obligations.QueryTempsReassemblesTheSensors := by
  intro s d w reads rest payloads hidle hlink hsession hplan hans hwrite hlen hvalid
  obtain ⟨hbusy, -, -⟩ := hidle
  obtain ⟨t, hrun, hdone⟩ := paginated_validReads (kind := .temperatures) (finishesAs_queryTemps (sessionSensors s))
    hlink hsession hplan hans hwrite hlen hvalid
  exact ⟨t, hrun ▸ exec_queryTemps_idle hbusy, hdone⟩

end Sys2Proof.Machine

/-! PROOFS. The statements on the step and the history (spec/20_memory.md R70, R71, R74): what a step fetches, an
operation's run to its end or to an unanswered call (spec/41_dispatcher.md R150, spec/70_reset_and_hazards.md R301), and the
history, which only grows. -/

namespace Sys2Proof.Machine

/-! ### What a step fetches -/

/-- A block that is not busy fetches the operation its oldest word decodes to (R74). -/
theorem fetch_word {s : State} {word : List Byte} {words : List (List Byte)} {i : Instr} (hreset : s.resetLine = false)
    (hbusy : s.engBusy = false) (hinbox : s.inbox = word :: words) (hdec : decodeOp word = .op i) :
    fetch s = .run i { s with inbox := words } := by
  simp [fetch, hreset, hbusy, hinbox, hdec]

/-- While an operation runs, and no frame row does, its next transition is fetched (R150). -/
theorem fetch_transition {s t : State} (hreset : s.resetLine = false) (hbusy : s.engBusy = true)
    (hslot : slotFrame? s = none) (hadv : advance s = some t) : fetch s = .proceed t := by
  simp [fetch, hreset, hbusy, hslot, hadv]

/-- Settles O6: the word is what the step fetches. -/
theorem stepRunsTheDecodedWord : Obligations.StepRunsTheDecodedWord := by
  intro s word words i hreset hbusy hinbox hdec
  rw [step, fetch_word hreset hbusy hinbox hdec]

/-- Settles O8: the transition is what the step fetches. -/
theorem stepIsTheNextTransition : Obligations.StepIsTheNextTransition := by
  intro s t hreset hbusy hslot hadv
  rw [step, fetch_transition hreset hbusy hslot hadv]

/-! ### A run goes as far as it can -/

/-- A run of as many transitions as the budget allows ends where no transition is left. -/
theorem runFor_exhausts {n : Nat} {s : State} (h : budget s ≤ n) : advance (runFor n s) = none := by
  induction n generalizing s with
  | zero =>
    cases hadv : advance s with
    | none => exact hadv
    | some t => have := budget_advance hadv; omega
  | succ n ih =>
    cases hadv : advance s with
    | none => rwa [runFor_rest _ hadv]
    | some t =>
      have := budget_advance hadv
      simp only [runFor, hadv]
      exact ih (by omega)

theorem advance_settle (s : State) : advance (settle s) = none := runFor_exhausts (le_refl _)

theorem advance_complete (s : State) : advance (complete s) = none :=
  advance_idle (complete_fsm s) (complete_running s)

theorem advance_raise (e : Err) (s : State) : advance (raise e s) = none :=
  advance_idle (raise_fsm e s) (raise_running e s)

/-- An accepted operation ends at once, or settles. -/
theorem Executed.advance_none {s t : State} (h : Executed s t) : advance t = none := by
  cases h with
  | refused => exact advance_raise _ _
  | computed => exact advance_complete _
  | configured => exact advance_complete _
  | reassembled => exact advance_complete _
  | balanced => exact advance_complete _
  | faulted => exact advance_complete _
  | closed => exact advance_complete _
  | reopening => exact advance_settle _
  | opening => exact advance_settle _
  | closing => exact advance_settle _
  | exchange => exact advance_settle _

/-- Settles O11: every transition uses up some of the budget that a run is given. -/
theorem anOperationRunsToItsEndOrToAnUnansweredCall : Obligations.AnOperationRunsToItsEndOrToAnUnansweredCall := by
  rintro s t i ⟨hbusy, -, -⟩ hi h
  exact (exec_executed hbusy hi h).advance_none

/-! ### The history only grows

A state is its own history put before the state without one, and putting events before the history commutes with whatever
the block does (R8). -/

theorem behind_own_history (s : State) : behind s.history { s with history := [] } = s := by simp [behind]

/-- A transition appends to the history (R70). -/
theorem advance_history_prefix {s t : State} (h : advance s = some t) : s.history <+: t.history := by
  rw [← behind_own_history s, advance_behind] at h
  obtain ⟨u, -, rfl⟩ := Option.map_eq_some_iff.mp h
  exact List.prefix_append _ _

theorem mapNext_next {f : State → State} {o : Host.Outcome State Fault Refusal} {t : State}
    (h : mapNext f o = .next t) : ∃ u, f u = t := by
  cases o with
  | next u => exact ⟨u, Host.Outcome.next.inj h⟩
  | fault r => cases h
  | refused r => cases h

/-- An instruction appends to the history (R70). -/
theorem exec_history_prefix {i : Instr} {s t : State} (h : exec i s = .next t) : s.history <+: t.history := by
  rw [← behind_own_history s, exec_behind] at h
  obtain ⟨u, rfl⟩ := mapNext_next h
  exact List.prefix_append _ _

/-- Settles O14: reset, an undefined word and a waiting block keep the history, and every other step is a transition or an
instruction. -/
theorem theHistoryOnlyGrows : Obligations.TheHistoryOnlyGrows := by
  intro s t h
  rcases step_cases h with ⟨-, rfl⟩ | ⟨-, -, i, u, hslot, hframe⟩ | ⟨-, -, -, hadv⟩ | ⟨-, -, -, -, rfl⟩ |
    ⟨-, -, -, rfl⟩ | ⟨-, -, w, words, -, ⟨i, -, hop⟩ | ⟨opc, -, rfl⟩⟩
  · exact List.prefix_refl _
  · exact advance_history_prefix (slotFrame_exec_advance hslot hframe)
  · exact advance_history_prefix hadv
  · exact List.prefix_refl _
  · exact List.prefix_refl _
  · exact exec_history_prefix (s := { s with inbox := words }) hop
  · exact (raise_history _ _).symm ▸ List.prefix_refl _

end Sys2Proof.Machine

/-! PROOFS. The statements on the encoding: operation words (spec/30_encoding.md R95 to R97) and frame rows (R80, R86) are
read back, and a word that is read is its operation's. -/

namespace Sys2Proof

/-! ### What each operand shape reads (R96) -/

theorem operands0_some {i j : Instr} {l : List Byte} (h : operands0 j l = some i) : l = [] ∧ i = j := by
  unfold operands0 at h
  split at h <;> cases h
  exact ⟨rfl, rfl⟩

theorem operands1_some {f : Byte → Instr} {l : List Byte} {i : Instr} (h : operands1 f l = some i) :
    ∃ a, l = [a] ∧ i = f a := by
  unfold operands1 at h
  split at h <;> cases h
  exact ⟨_, rfl, rfl⟩

theorem operands2_some {f : Byte → Byte → Instr} {l : List Byte} {i : Instr} (h : operands2 f l = some i) :
    ∃ a b, l = [a, b] ∧ i = f a b := by
  unfold operands2 at h
  split at h <;> cases h
  exact ⟨_, _, rfl, rfl⟩

theorem operandsP8_some {f : Payload → Instr} {l : List Byte} {i : Instr} (h : operandsP8 f l = some i) :
    ∃ p : Payload, l = p.toList ∧ i = f p := by
  unfold operandsP8 at h
  split at h <;> cases h
  exact ⟨_, rfl, rfl⟩

theorem operandsCmdLen_some {f : Byte → List Byte → Instr} {l : List Byte} {i : Instr}
    (h : operandsCmdLen f l = some i) :
    ∃ cmd bytes, l = cmd :: lenBytes bytes ∧ bytes.length ≤ 255 ∧ i = f cmd bytes := by
  unfold operandsCmdLen at h
  split at h
  · cases h
  · obtain ⟨bytes, rfl, hlen, rfl⟩ := operandsLen_some h
    exact ⟨_, bytes, rfl, hlen, rfl⟩

theorem operandsSend_some {f : Byte → Byte → Byte → List Byte → Instr} {l : List Byte} {i : Instr}
    (h : operandsSend f l = some i) :
    ∃ cmd n r bytes, l = cmd :: n :: r :: lenBytes bytes ∧ bytes.length ≤ 255 ∧ i = f cmd n r bytes := by
  unfold operandsSend at h
  split at h
  · obtain ⟨bytes, rfl, hlen, rfl⟩ := operandsLen_some h
    exact ⟨_, _, _, bytes, rfl, hlen, rfl⟩
  · cases h

/-- A `LEN` byte holds the count of up to 255 bytes, so it and its bytes are read back; the converse of
`operandsLen_some`. -/
theorem operandsLen_lenBytes (f : List Byte → Instr) {bytes : List Byte} (h : bytes.length ≤ 255) :
    operandsLen f (lenBytes bytes) = some (f bytes) := by
  have hlen : bytes.length = (BitVec.ofNat 8 bytes.length).toNat := by rw [BitVec.toNat_ofNat]; omega
  exact if_pos hlen

/-! ### Operation words -/

/-- A word is read as an operation exactly when its first byte is a code of R95 and the operands after it are read. -/
theorem decodeOp_eq_op_iff {word : List Byte} {i : Instr} :
    decodeOp word = .op i ↔ ∃ k operands, word = OpKind.opc k :: operands ∧ decodeOperands k operands = some i := by
  constructor
  · intro h
    unfold decodeOp at h
    split at h
    · cases h
    · split at h
      · cases h
      next hk =>
        split at h <;> cases h
        exact ⟨_, _, by rw [opKind_some hk], ‹_›⟩
  · rintro ⟨k, operands, rfl, h⟩
    simp only [decodeOp, opKind_opc, h]

/-- The operands of a code, once read, are those of a well-formed host operation whose word they end. -/
theorem decodeOperands_some {k : OpKind} {operands : List Byte} {i : Instr} (h : decodeOperands k operands = some i)
    (m : CmdMap) : encodeWith m i = k.opc :: operands ∧ i.wellFormed = true ∧ i.isHostOp = true := by
  cases k with
  | openLink | closeLink | statusQuery | queryCells | queryTemps =>
    obtain ⟨rfl, rfl⟩ := operands0_some h
    exact ⟨rfl, rfl, rfl⟩
  | planPages | query =>
    obtain ⟨a, rfl, rfl⟩ := operands1_some h
    exact ⟨rfl, rfl, rfl⟩
  | cfgWrite | reassemble =>
    obtain ⟨a, b, rfl, rfl⟩ := operands2_some h
    exact ⟨rfl, rfl, rfl⟩
  | decodeBalancing | decodeFaults =>
    obtain ⟨p, rfl, rfl⟩ := operandsP8_some h
    exact ⟨rfl, rfl, rfl⟩
  | checksum =>
    obtain ⟨bytes, rfl, hlen, rfl⟩ := operandsLen_some h
    exact ⟨rfl, decide_eq_true hlen, rfl⟩
  | encode | decode | set =>
    obtain ⟨cmd, bytes, rfl, hlen, rfl⟩ := operandsCmdLen_some h
    exact ⟨rfl, decide_eq_true hlen, rfl⟩
  | send =>
    obtain ⟨cmd, n, r, bytes, rfl, hlen, rfl⟩ := operandsSend_some h
    exact ⟨rfl, decide_eq_true hlen, rfl⟩

/-- A well-formed host operation's word is a code of R95 and operands that are read as that operation. -/
theorem exists_decodeOperands (m : CmdMap) {i : Instr} (hop : i.isHostOp = true) (hwf : i.wellFormed = true) :
    ∃ k operands, encodeWith m i = OpKind.opc k :: operands ∧ decodeOperands k operands = some i := by
  cases i with
  | openLink | closeLink | statusQuery | queryCells | queryTemps | planPages | query | cfgWrite | reassemble
  | decodeBalancing | decodeFaults => exact ⟨_, _, rfl, rfl⟩
  | checksum | encode | decode | set | send => exact ⟨_, _, rfl, operandsLen_lenBytes _ (of_decide_eq_true hwf)⟩
  | _ => cases hop

/-- Settles O1: the word is a code of R95 and operands that are read as the operation. -/
theorem hostWordsReadBack : Obligations.HostWordsReadBack := fun m _ hop hwf =>
  decodeOp_eq_op_iff.mpr (exists_decodeOperands m hop hwf)

/-- Settles O3: the word's first byte is a code of R95, and each operand shape of R96 fixes the bytes it reads. -/
theorem aReadWordIsItsOperationsWord : Obligations.AReadWordIsItsOperationsWord := by
  intro m word i h
  obtain ⟨k, operands, rfl, hoperands⟩ := decodeOp_eq_op_iff.mp h
  exact decodeOperands_some hoperands m

/-! ### Frame rows -/

theorem WireCmd.mem_all (c : WireCmd) : c ∈ WireCmd.all := by cases c <;> decide

/-- Where no two commands share a byte, a command's byte names it (R86). -/
theorem wireCmd_byte {m : CmdMap} (hm : m.Distinct) (c : WireCmd) : wireCmd? m (m.byte c) = some c := by
  unfold wireCmd?
  cases hfind : WireCmd.all.find? (fun d => m.byte d == m.byte c) with
  | none => exact absurd (beq_self_eq_true (m.byte c)) (List.find?_eq_none.mp hfind c c.mem_all)
  | some d =>
    have hbyte : m.byte d = m.byte c := by simpa using List.find?_some hfind
    rw [List.inj_on_of_nodup_map hm d.mem_all c.mem_all hbyte]

/-- The bytes of R80's layout are the row of the command their third byte names. -/
theorem decodeWire_wireBytes (m : CmdMap) (cmd start addr : Byte) (p : Payload) (ck : Byte) :
    decodeWire m (wireBytes cmd start addr p ck) = (wireCmd? m cmd).map (fun c => wireInstr c start addr p ck) := by
  simp [decodeWire, wireBytes]

/-- Settles O2: the layout of R80 is read back, and the command byte names its command. -/
theorem framesReadBack : Obligations.FramesReadBack := by
  intro m hm i hi
  obtain ⟨c, start, addr, p, ck, rfl⟩ := exists_wireInstr hi
  rw [encodeWith_wireInstr, decodeWire_wireBytes, wireCmd_byte hm]
  rfl

/-! ### Words written out -/

/-- Settles O4: the six operation words and the frame are the encodings of what they are read as, so the two round trips
apply; 0x13 is no code of R95. -/
theorem sampleWordsDecode : Obligations.SampleWordsDecode :=
  ⟨hostWordsReadBack .default (.cfgWrite 1 0) rfl rfl,
    hostWordsReadBack .default (.checksum [0xFF, 0x01]) rfl rfl,
    hostWordsReadBack .default (.send 0x90 1 3 []) rfl rfl,
    hostWordsReadBack .default (.reassemble 2 5) rfl rfl,
    hostWordsReadBack .default (.query 0x97) rfl rfl,
    hostWordsReadBack .default (.decodeBalancing ⟨0, 0, 0, 0, 0, 0, 0, 5⟩) rfl rfl,
    by decide,
    framesReadBack .default (by decide) (.frameSoc 0xA5 0x40 Payload.zero 0x7D) rfl⟩

end Sys2Proof

/-! PROOFS. The statements on the frame codec (spec/40_frame_codec.md R110 to R125): the bytes of a frame and its checksum,
what one changed byte does to the sum, and the ends of CHECKSUM, ENCODE and DECODE. Then a frame in a waiting slot that fails
Decode (spec/41_dispatcher.md R157, R167). -/

namespace Sys2Proof

/-! ### Payloads and frames as bytes -/

/-- A payload has no byte for what lies beyond the eighth. -/
theorem Payload.ofList_append {bytes : List Byte} (h : 8 ≤ bytes.length) (rest : List Byte) :
    Payload.ofList (bytes ++ rest) = Payload.ofList bytes := by
  have hbyte : ∀ j < 8, (bytes ++ rest).getD j 0 = bytes.getD j 0 := fun j hj => List.getD_append _ _ _ _ (by omega)
  simp only [Payload.ofList, hbyte, Nat.reduceLT]

/-- Thirteen bytes are those of the frame they are read as. -/
theorem Frame.toBytes_ofBytes {bytes : List Byte} (h : bytes.length = 13) : (Frame.ofBytes bytes).toBytes = bytes := by
  match bytes, h with
  | [_, _, _, _, _, _, _, _, _, _, _, _, _], _ => rfl

/-- The payload of a frame is read from the bytes behind the first four, the checksum byte left out. -/
theorem Frame.payload_ofBytes (bytes : List Byte) : (Frame.ofBytes bytes).payload = Payload.ofList (bytes.drop 4) := rfl

namespace Machine

/-- PAD8 appends zeros up to eight bytes (R83). -/
theorem pad8_toList {extra : List Byte} (h : extra.length ≤ 8) :
    (pad8 extra).toList = extra ++ List.replicate (8 - extra.length) 0 := by
  have hbytes : (pad8 extra).toList = (List.range 8).map (extra.getD · 0) := rfl
  rw [hbytes]
  refine List.ext_getElem (by simp; omega) fun j hj _ => ?_
  by_cases hlt : j < extra.length
  · simp [List.getElem_append_left, hlt]
  · have hle := Nat.le_of_not_lt hlt
    simp [List.getElem_append_right hle, hle]

/-! ### The checksum of changed bytes (R110) -/

/-- One byte changed moves the checksum by the difference. -/
theorem checksum_set {x b : Byte} : ∀ {bytes : List Byte} {k : Nat}, bytes[k]? = some x →
    checksum (bytes.set k b) + x = checksum bytes + b
  | [], _, h => by simp at h
  | y :: ys, 0, h => by
    obtain rfl : y = x := by simpa using h
    simp only [List.set_cons_zero, checksum_cons]
    ac_rfl
  | y :: ys, k + 1, h => by
    have ih := checksum_set (b := b) (bytes := ys) (k := k) (by simpa using h)
    simp only [List.set_cons_succ, checksum_cons, BitVec.add_assoc, ih]

/-- Flipping bit 7 of a byte is adding 0x80, the carry out of the byte lost. -/
theorem xor_bit7 (x : Byte) : x ^^^ 0x80 = x + 0x80 := by
  revert x
  decide

/-- Flipping bit 7 of one byte moves the checksum by 0x80 (R124). -/
theorem checksum_set_xor_bit7 {bytes : List Byte} {k : Nat} {x : Byte} (h : bytes[k]? = some x) :
    checksum (bytes.set k (x ^^^ 0x80)) = checksum bytes + 0x80 := by
  have hset := checksum_set (b := x ^^^ 0x80) h
  rw [xor_bit7] at hset ⊢
  bv_omega

/-! ### The tests of Decode, one by one (R113 to R118) -/

section
variable {bytes : List Byte} {exp : Byte}

theorem codecDecode_of_length_ne (h : bytes.length ≠ 13) : codecDecode bytes exp = .error .shortFrame := if_pos h

theorem codecDecode_of_checksum_ne (hlen : bytes.length = 13) (hck : bytes.getD 12 0 ≠ checksum (bytes.take 12)) :
    codecDecode bytes exp = .error .checksumMismatch := by
  have hck' : (Frame.ofBytes bytes).ck ≠ checksum (bytes.take 12) := hck
  simp only [codecDecode, hlen, ne_eq, not_true_eq_false, if_false, hck', not_false_eq_true, if_true]

theorem codecDecode_of_cmd_ne (hlen : bytes.length = 13) (hck : bytes.getD 12 0 = checksum (bytes.take 12))
    (hcmd : bytes.getD 2 0 ≠ exp) : codecDecode bytes exp = .error .commandMismatch := by
  have hck' : (Frame.ofBytes bytes).ck = checksum (bytes.take 12) := hck
  have hcmd' : (Frame.ofBytes bytes).cmd ≠ exp := hcmd
  simp only [codecDecode, hlen, ne_eq, not_true_eq_false, if_false, hck', hcmd', not_false_eq_true, if_true]

end

/-- Decode of a frame whose checksum byte is right gives its payload, whatever its start, address and length bytes (R117). -/
theorem codecDecode_toBytes {f : Frame} (h : f.ck = checksum (f.toBytes.take 12)) :
    codecDecode f.toBytes f.cmd = .ok f.payload := codecDecode_ok.mpr ⟨rfl, h, rfl, rfl⟩

/-- The checksum byte of a request frame is the checksum of its other bytes (R112). -/
theorem requestFrame_ck (p : Params) (v : Variant) (cmd : Byte) (extra : List Byte) :
    (requestFrame p v cmd extra).ck = checksum ((requestFrame p v cmd extra).toBytes.take 12) := rfl

/-- Settles O21: a request frame's checksum and command are right, and its payload is PAD8 of the extra bytes. -/
theorem encodeThenDecodeGivesThePaddedExtra : Obligations.EncodeThenDecodeGivesThePaddedExtra := fun p v cmd extra h =>
  ⟨requestFrame p v cmd extra, pad8 extra, codecEncode_ok h, codecDecode_toBytes (requestFrame_ck p v cmd extra),
    pad8_toList h⟩

/-- Settles O22: a change of the checksum byte leaves the sum of the other bytes, and a change of another byte moves the sum
and leaves the checksum byte. -/
theorem oneChangedByteIsAlwaysDetected : Obligations.OneChangedByteIsAlwaysDetected := by
  intro frame cmd payload hok k b exp hk hne
  obtain ⟨hlen, hck : frame.getD 12 0 = checksum (frame.take 12), -, -⟩ := codecDecode_ok.mp hok
  have hkth : frame[k]? = some frame[k] := List.getElem?_eq_getElem (by omega)
  refine codecDecode_of_checksum_ne (by simpa using hlen) fun heq => hne (hkth.trans (congrArg some ?_))
  rw [List.take_set] at heq
  by_cases hlast : k = 12
  · subst hlast
    rw [List.set_eq_of_length_le (l := frame.take 12) (by simp), ← hck] at heq
    simpa [hlen] using heq.symm
  · have hsum : checksum ((frame.take 12).set k b) + frame[k] = checksum (frame.take 12) + b :=
      checksum_set (by rw [List.getElem?_take_of_lt (by omega), hkth])
    have hsame : (frame.set k b).getD 12 0 = frame.getD 12 0 := by
      simp [List.getD_eq_getElem?_getD, List.getElem?_set_ne hlast]
    rw [← heq, hsame, hck] at hsum
    exact add_left_cancel hsum

/-- Settles O23: each flip moves the sum by 0x80, so two of them leave it, and they leave the checksum and command bytes. -/
theorem twoBitSevenFlipsInThePayloadPass : Obligations.TwoBitSevenFlipsInThePayloadPass := by
  intro frame cmd payload hok j k x y hj hjk hk hx hy
  obtain ⟨hlen, hck, hcmd, rfl⟩ := codecDecode_ok.mp hok
  obtain ⟨f, rfl⟩ : ∃ f : Frame, frame = f.toBytes := ⟨_, (Frame.toBytes_ofBytes hlen).symm⟩
  have hkept : ∀ n, n < 4 ∨ n = 12 →
      ((f.toBytes.set j (x ^^^ 0x80)).set k (y ^^^ 0x80)).getD n 0 = f.toBytes.getD n 0 := fun n hn => by
    rw [List.getD_eq_getElem?_getD, List.getElem?_set_ne (by omega), List.getElem?_set_ne (by omega),
      List.getD_eq_getElem?_getD]
  refine codecDecode_ok.mpr ⟨by simp, ?_, (hkept 2 (by decide)).trans hcmd, ?_⟩
  · have hx' : (f.toBytes.take 12)[j]? = some x := by rw [List.getElem?_take_of_lt (by omega), hx]
    have hy' : ((f.toBytes.take 12).set j (x ^^^ 0x80))[k]? = some y := by
      rw [List.getElem?_set_ne (by omega), List.getElem?_take_of_lt (by omega), hy]
    calc ((f.toBytes.set j (x ^^^ 0x80)).set k (y ^^^ 0x80)).getD 12 0
      _ = checksum (f.toBytes.take 12) := (hkept 12 (by decide)).trans hck
      _ = checksum (f.toBytes.take 12) + 0x80 + 0x80 := by rw [BitVec.add_assoc]; exact (BitVec.add_zero _).symm
      _ = checksum (((f.toBytes.set j (x ^^^ 0x80)).set k (y ^^^ 0x80)).take 12) := by
        rw [List.take_set, List.take_set, checksum_set_xor_bit7 hy', checksum_set_xor_bit7 hx']
  · have hdrop : f.toBytes.drop 4 = f.payload.toList ++ [f.ck] := rfl
    rw [Frame.ofBytes_toBytes, Frame.payload_ofBytes, List.drop_set, if_neg (by omega), List.drop_set, if_neg (by omega),
      hdrop, List.set_append_left _ _ (by simp; omega), List.set_append_left _ _ (by simp; omega),
      Payload.ofList_append (by simp)]

/-! ### An accepted operation's end -/

section
variable {s : State} (h : Idle s)
include h

theorem complete_accepted : complete { s with engBusy := true } =
    { s with engErr := 0, engErrCmd := 0, engCause := 0, engDetail := 0, engWritten := 0 } := by
  obtain ⟨hbusy, hfsm, hrun⟩ := h
  rw [complete_eq, ← hbusy, ← hfsm, ← hrun]

theorem raise_accepted {e : Err} (he : e ≠ .exchangeFailed) : raise e { s with engBusy := true } =
    { s with engErr := errCode e, engErrCmd := 0, engCause := 0, engDetail := 0, engWritten := 0 } := by
  obtain ⟨hbusy, hfsm, hrun⟩ := h
  rw [raise_eq he, ← hbusy, ← hfsm, ← hrun]

/-! ### CHECKSUM, ENCODE and DECODE (R120 to R122) -/

theorem exec_checksum_idle (bytes : List Byte) : exec (.checksum bytes) s = .next { s with
    resChecksum := checksum bytes, engErr := 0, engErrCmd := 0, engCause := 0, engDetail := 0, engWritten := 0 } := by
  show execChecksum bytes s = _
  rw [execChecksum, accept_idle h.1]
  exact congrArg _ (complete_accepted (s := { s with resChecksum := checksum bytes }) h)

theorem exec_encode_ok {cmd : Byte} {extra : List Byte} {f : Frame}
    (henc : codecEncode s.params s.addrVariant cmd extra = .ok f) : exec (.encode cmd extra) s = .next { s with
      txbuf := f, engErr := 0, engErrCmd := 0, engCause := 0, engDetail := 0, engWritten := 0 } := by
  show execEncode cmd extra s = _
  rw [execEncode, accept_idle h.1, henc]
  exact congrArg _ (complete_accepted (s := { s with txbuf := f }) h)

theorem exec_encode_error {cmd : Byte} {extra : List Byte} {e : Err} (he : e ≠ .exchangeFailed)
    (henc : codecEncode s.params s.addrVariant cmd extra = .error e) : exec (.encode cmd extra) s = .next { s with
      engErr := errCode e, engErrCmd := 0, engCause := 0, engDetail := 0, engWritten := 0 } := by
  show execEncode cmd extra s = _
  rw [execEncode, accept_idle h.1, henc]
  exact congrArg _ (raise_accepted h he)

theorem exec_decode_ok {exp : Byte} {bytes : List Byte} {p : Payload} (hdec : codecDecode bytes exp = .ok p) :
    exec (.decode exp bytes) s = .next { s with
      resPayload := p, engErr := 0, engErrCmd := 0, engCause := 0, engDetail := 0, engWritten := 0 } := by
  show execDecode exp bytes s = _
  rw [execDecode, accept_idle h.1, hdec]
  exact congrArg _ (complete_accepted (s := { s with resPayload := p }) h)

theorem exec_decode_error {exp : Byte} {bytes : List Byte} {e : Err} (he : e ≠ .exchangeFailed)
    (hdec : codecDecode bytes exp = .error e) : exec (.decode exp bytes) s = .next { s with
      engErr := errCode e, engErrCmd := 0, engCause := 0, engDetail := 0, engWritten := 0 } := by
  show execDecode exp bytes s = _
  rw [execDecode, accept_idle h.1, hdec]
  exact congrArg _ (raise_accepted h he)

end

/-- Settles O16: the operation writes the model's checksum, which is that sum. -/
theorem checksumWritesTheSum : Obligations.ChecksumWritesTheSum := fun _ bytes h => exec_checksum_idle h bytes

/-- Settles O17: the frame is the request frame, whose payload is PAD8 of the extra bytes. -/
theorem encodeBuildsTheRequestFrame : Obligations.EncodeBuildsTheRequestFrame := by
  intro s cmd extra h hlen
  refine ⟨requestFrame s.params s.addrVariant cmd extra, exec_encode_ok h (codecEncode_ok hlen), ?_⟩
  have hbody : ∀ addr : Byte, [s.params.startByte, addr, cmd, 0x08] ++ extra ++ List.replicate (8 - extra.length) 0 =
      [s.params.startByte, addr, cmd, 0x08] ++ (pad8 extra).toList := fun addr => by
    rw [pad8_toList hlen, List.append_assoc]
  cases hv : s.addrVariant with
  | wired => simp only [hbody]; rfl
  | wireless => simp only [hbody]; rfl

/-- Settles O18: Encode answers EncodingError, and raising it writes `ENG.*` alone. -/
theorem encodeNeverTruncates : Obligations.EncodeNeverTruncates := fun _ _ _ h hlen =>
  exec_encode_error h (by decide) (codecEncode_long hlen)

/-- Settles O19: the bytes are those of a frame that passes the three tests. -/
theorem decodeExtractsThePayload : Obligations.DecodeExtractsThePayload := by
  rintro s _ start addr cmd len ck p h hck rfl
  exact exec_decode_ok h (codecDecode_toBytes (f := ⟨start, addr, cmd, len, p, ck⟩) hck)

/-- Settles O20: each clause is one test of Decode failing after those before it passed. -/
theorem decodeReportsTheFirstFailingTest : Obligations.DecodeReportsTheFirstFailingTest := by
  rintro s exp bytes h _ (⟨hlen, rfl⟩ | ⟨hlen, hck, rfl⟩ | ⟨hlen, hck, hcmd, rfl⟩)
  · exact exec_decode_error h (by decide) (codecDecode_of_length_ne hlen)
  · exact exec_decode_error h (by decide) (codecDecode_of_checksum_ne hlen hck)
  · exact exec_decode_error h (by decide) (codecDecode_of_cmd_ne hlen hck hcmd)

/-! ### A frame in a waiting slot (R155, R157) -/

/-- A frame that a waiting slot takes is stored whole, whatever the slot held before, and decoded (R155, R157). -/
theorem receiveFrame_waiting {s : State} (h : slotWaiting s = true) (f : Frame) :
    receiveFrame f.toBytes s = .next (decodeSlot f.toBytes { s with
      rxslot := f, rxlen := 13, history := s.history ++ [.read 13 f.toBytes false] }) := by
  rw [receiveFrame, if_pos h]
  exact congrArg Host.Outcome.next (slotStep_frame (a := ⟨0, f.toBytes, false⟩) rfl (Nat.lt_irrefl 13) s)

/-- A frame that fails Decode is discarded, uses up its slot and leaves its detail (R157, R167). -/
theorem receiveFrame_invalid {s : State} (h : slotWaiting s = true) {f : Frame} {e : Err}
    (hdec : codecDecode f.toBytes s.xCmd = .error e) :
    receiveFrame f.toBytes s = .next { s with
      rxslot := f, rxlen := 13, lastDetail := detailCode (slotDetail e), slot := s.slot + 1,
      slotCarry := decide (s.slot = 0xFF), history := s.history ++ [.read 13 f.toBytes false] } := by
  rw [receiveFrame_waiting h]
  exact congrArg Host.Outcome.next (decodeSlot_error hdec)

/-- Settles O53: the checksum is tested first, so a wrong one is reported whatever the command. -/
theorem anInvalidFrameUsesUpItsSlot : Obligations.AnInvalidFrameUsesUpItsSlot := by
  intro s c start addr ck p hwait hinvalid
  rw [exec_wireInstr]
  by_cases hck : ck = checksum ([start, addr, s.params.cmd.byte c, 0x08] ++ p.toList)
  · have hcmd : s.params.cmd.byte c ≠ s.xCmd := fun heq => hinvalid.elim (· hck) (· heq.symm)
    rw [if_neg (not_not.mpr hck)]
    exact receiveFrame_invalid (f := ⟨start, addr, s.params.cmd.byte c, 0x08, p, ck⟩) hwait (codecDecode_of_cmd_ne rfl hck hcmd)
  · rw [if_pos hck]
    exact receiveFrame_invalid (f := ⟨start, addr, s.params.cmd.byte c, 0x08, p, ck⟩) hwait (codecDecode_of_checksum_ne rfl hck)

end Machine

end Sys2Proof

/-! PROOFS. A frame of the command map in a waiting slot (spec/41_dispatcher.md R155, R157, R167), and the exchanges of which
every answer is given: the pseudo-code of R151 in closed form, read through the simulation of the state machine (R150 to
R171, spec/43_session_queries.md R214 to R220). -/

namespace Sys2Proof.Machine

/-! ### A frame of the command map in a waiting slot -/

theorem engBusy_of_slotWaiting {s : State} (h : slotWaiting s = true) : s.engBusy = true := by
  simp only [slotWaiting, Bool.and_eq_true] at h
  obtain ⟨⟨hbusy, -⟩, -⟩ := h
  exact hbusy

/-- An answer that is a frame of the command map is the waiting slot's; the converse of `slotFrame_some`. -/
theorem slotFrame_of_answer {s : State} {a : Answer} {answers : List Answer} {i : Instr} (hwait : slotWaiting s = true)
    (hans : s.answers = a :: answers) (herr : a.err = false) (hdec : decodeWire s.params.cmd (readBytes a) = some i) :
    slotFrame? s = some (i, { s with answers := answers }) := by
  simp [slotFrame?, hwait, hans, herr, hdec]

/-- The waiting slot's frame is fetched before any other transition. -/
theorem fetch_slotFrame {s t : State} {i : Instr} (hreset : s.resetLine = false) (hbusy : s.engBusy = true)
    (hslot : slotFrame? s = some (i, t)) : fetch s = .run i t := by
  simp [fetch, hreset, hbusy, hslot]

/-- A frame row always has a next state (R155, R276). -/
theorem exists_exec_wireInstr (c : WireCmd) (start addr : Byte) (p : Payload) (ck : Byte) (s : State) :
    ∃ t, exec (wireInstr c start addr p ck) s = .next t := by
  rw [exec_wireInstr]
  exact ⟨_, rfl⟩

/-- Settles O7: the step fetches the slot's frame, and running it is the running operation's transition. -/
theorem stepRunsTheSlotsFrame : Obligations.StepRunsTheSlotsFrame := by
  intro s a answers i hreset hwait hans herr hdec
  have hslot := slotFrame_of_answer hwait hans herr hdec
  obtain ⟨c, start, addr, p, ck, rfl, -⟩ := decodeWire_some hdec
  obtain ⟨t, hexec⟩ := exists_exec_wireInstr c start addr p ck { s with answers := answers }
  refine ⟨?_, t, hexec, slotFrame_exec_advance hslot hexec⟩
  rw [step, fetch_slotFrame hreset (engBusy_of_slotWaiting hwait) hslot]

/-- A frame that passes Decode is collected and uses up its slot (R157, R167). -/
theorem receiveFrame_valid {s : State} (h : slotWaiting s = true) {f : Frame} {p : Payload}
    (hdec : codecDecode f.toBytes s.xCmd = .ok p) :
    receiveFrame f.toBytes s = .next { s with
      rxslot := f, rxlen := 13, reply := s.reply ++ [p], slot := s.slot + 1,
      slotCarry := decide (s.slot = 0xFF), history := s.history ++ [.read 13 f.toBytes false] } := by
  rw [receiveFrame_waiting h]
  exact congrArg Host.Outcome.next (decodeSlot_ok hdec)

/-- Settles O52: a frame with the exchange's command and a right checksum passes Decode. -/
theorem aValidFrameFillsItsSlot : Obligations.AValidFrameFillsItsSlot := by
  intro s c start addr ck p hwait hcmd hck
  rw [exec_wireInstr]
  refine receiveFrame_valid (f := ⟨start, addr, s.params.cmd.byte c, 0x08, p, ck⟩) hwait ?_
  rw [hcmd]
  exact codecDecode_toBytes (f := ⟨start, addr, s.params.cmd.byte c, 0x08, p, ck⟩) hck

/-! ### How an exchange's end is read off its pseudo-code -/

theorem clampRetries_toNat (r : Byte) : (clampRetries r).toNat = max 1 r.toNat := by
  unfold clampRetries
  split
  · simp_all
  · bv_omega

/-- What an exchange that succeeded leaves, the session and the pages apart (R158, R261). -/
theorem exchangeDone_of_endsAs {cmd : Byte} {extra : List Byte} {n r : Byte} {s u : State} {payloads : List Payload}
    {events : List Event} {rest : List Answer} {detail : Byte} {rxslot : Frame} {rxlen : BitVec 4}
    {sessionValid : Bool} {sessionStatus : Payload}
    (h : EndsAs u (some (complete
      { latchedExchange cmd extra n r s with
        txbuf := requestFrame s.params s.addrVariant cmd extra, answers := rest, reply := payloads
        history := s.history ++ events, lastDetail := detail, rxslot, rxlen, sessionValid, sessionStatus }))) :
    ExchangeDone cmd extra payloads s u ∧ u.sessionValid = sessionValid ∧ u.sessionStatus = sessionStatus ∧
      SamePorts s u ∧ SameConfig s u ∧ SameOtherResults s u ∧ SamePages s u ∧ u.answers = rest ∧
      u.history = s.history ++ events := by
  have heq : hideCounters u = hideCounters _ := h
  simp only [hideCounters, complete_eq, latchedExchange, State.mk.injEq] at heq
  simp [ExchangeDone, Idle, EngClear, SamePorts, SameConfig, SameOtherResults, SamePages, heq]

/-- What SEND, QUERY and SET leave where their exchange succeeded (R151, R219, R220). -/
theorem plainExchange_done {op : Running} (hop : op = .send ∨ op = .query ∨ op = .set) {cmd : Byte}
    {extra : List Byte} {n r : Byte} {s : State} {payloads : List Payload} {events : List Event} {rest : List Answer}
    {detail : Byte} {rxslot : Frame} {rxlen : BitVec 4}
    (href : refExchange cmd extra n r dropReply id s = some (complete (id
      { latchedExchange cmd extra n r s with
        txbuf := requestFrame s.params s.addrVariant cmd extra, answers := rest, reply := payloads
        history := s.history ++ events, lastDetail := detail, rxslot, rxlen }))) :
    ∃ t, settle (startExchange op cmd extra n r { s with engBusy := true }) = t ∧ ExchangeDone cmd extra payloads s t ∧
      ExchangeFrame s t ∧ t.answers = rest ∧ t.history = s.history ++ events := by
  have hends := exchange_endsAs (finishesAs_plain hop) cmd extra n r s
  rw [href] at hends
  obtain ⟨hdone, hvalid, hstatus, hports, hconfig, hresults, hpages, hlast⟩ :=
    exchangeDone_of_endsAs (sessionValid := s.sessionValid) (sessionStatus := s.sessionStatus) hends
  exact ⟨_, rfl, hdone, ⟨hports, ⟨hvalid, hstatus⟩, hconfig, hresults, hpages⟩, hlast⟩

/-! ### A valid frame in every slot of the first attempt -/

/-- Settles O31: a valid frame in each slot makes the first attempt succeed. -/
theorem sendCollectsEverySlotsFrame : Obligations.SendCollectsEverySlotsFrame := by
  intro s cmd n r extra d w reads rest payloads hidle hlink hextra hn hans hwrite hlen hvalid
  obtain ⟨hbusy, -, -⟩ := hidle
  obtain ⟨rxslot, rxlen, href⟩ :=
    refExchange_validReads r dropReply id hlink hextra hn hans hwrite hlen hvalid
  obtain ⟨t, hrun, hdone⟩ := plainExchange_done (.inl rfl) href
  exact ⟨t, hrun ▸ exec_send_idle hbusy cmd n r extra, hdone⟩

/-- Settles O41: the exchange of QUERY is one slot, and QUERY has no last step of its own. -/
theorem queryReturnsTheReply : Obligations.QueryReturnsTheReply := by
  intro s cmd d w a rest p hidle hlink hans hwrite hvalid
  obtain ⟨hbusy, -, -⟩ := hidle
  obtain ⟨rxslot, rxlen, href⟩ := refExchange_validReads (n := 1) (extra := []) (reads := [a]) s.retries dropReply id
    hlink (Nat.zero_le 8) (by decide) hans hwrite rfl hvalid
  obtain ⟨t, hrun, hdone⟩ := plainExchange_done (.inr (.inl rfl)) href
  exact ⟨t, hrun ▸ exec_query_idle hbusy cmd, hdone⟩

/-- Settles O42: the exchange of SET is one slot, with the extra bytes in its request frame. -/
theorem setSendsTheExtraBytes : Obligations.SetSendsTheExtraBytes := by
  intro s cmd extra d w a rest p hidle hlink hextra hans hwrite hvalid
  obtain ⟨hbusy, -, -⟩ := hidle
  obtain ⟨rxslot, rxlen, href⟩ := refExchange_validReads (n := 1) (reads := [a]) s.retries dropReply id
    hlink hextra (by decide) hans hwrite rfl hvalid
  obtain ⟨t, hrun, hdone⟩ := plainExchange_done (.inr (.inr rfl)) href
  exact ⟨t, hrun ▸ exec_set_idle hbusy cmd extra, hdone⟩

/-- Settles O40: the exchange of STATUS_QUERY is one slot, and its reply is latched. -/
theorem statusQueryLoadsTheSession : Obligations.StatusQueryLoadsTheSession := by
  intro s d w a rest p hidle hlink hans hwrite hvalid
  obtain ⟨hbusy, -, -⟩ := hidle
  have hends := exchange_endsAs finishesAs_statusQuery s.params.cmd.status [] 1 s.retries s
  obtain ⟨rxslot, rxlen, href⟩ := refExchange_validReads (n := 1) (extra := []) (reads := [a]) s.retries dropReply
    (fun t => { t with sessionStatus := t.reply.headD t.sessionStatus, sessionValid := true })
    hlink (Nat.zero_le 8) (by decide) hans hwrite rfl hvalid
  rw [href] at hends
  exact ⟨_, exec_statusQuery_idle hbusy, exchangeDone_of_endsAs (sessionValid := true) (sessionStatus := p) hends⟩

/-! ### A collection that a read ends (R156, R160) -/

/-- The detail of a read that ends the collection (R156, R165, R267). -/
def endDetail (a : Answer) : Detail :=
  if a.err then .readError else if (readBytes a).length = 0 then .noData else .shortRead

/-- What a read that ends the collection logs: a count of 1 to 12 bytes (R156). -/
def shortReadLogs (a : Answer) : List LogEvent :=
  if a.err = false ∧ 0 < (readBytes a).length then [.shortRead (readBytes a).length] else []

/-- A read that reports an error or fewer than 13 bytes ends the collection (R156, R165). -/
theorem refSlots_ended {s : State} {a : Answer} {rest : List Answer} (h : s.answers = a :: rest) (k : Nat)
    (hend : a.err = true ∨ (readBytes a).length < 13) :
    refSlots (k + 1) s = some { storeSlot (readBytes a) s with
      answers := rest, history := s.history ++ [readEvent a] ++ (shortReadLogs a).map .log
      lastDetail := detailCode (endDetail a) } := by
  by_cases herr : a.err = true
  · rw [refSlots_error h k herr]
    simp [readSlot, storeSlot, endDetail, shortReadLogs, herr]
  · have hlen := hend.resolve_left herr
    rw [Bool.not_eq_true] at herr
    by_cases hzero : (readBytes a).length = 0
    · rw [refSlots_noData h k herr hzero]
      simp [readSlot, storeSlot, endDetail, shortReadLogs, herr, hzero]
    · rw [refSlots_short h k herr hzero hlen, emitLog_readSlot]
      simp [storeSlot, endDetail, shortReadLogs, herr, hzero, Nat.pos_of_ne_zero hzero]

/-- Valid frames fill their slots in turn, and the slots after them go on from there (R157, R167). -/
theorem refSlots_validReads_then (k : Nat) {rest : List Answer} :
    ∀ (reads : List Answer) (payloads : List Payload) (t : State),
      ValidReads t.xCmd reads payloads → t.answers = reads ++ rest →
      ∃ rxslot rxlen, refSlots (reads.length + k) t = refSlots k { t with
        answers := rest, reply := t.reply ++ payloads, history := t.history ++ reads.map readEvent, rxslot, rxlen } := by
  intro reads
  induction reads with
  | nil =>
    intro payloads t hvalid hans
    cases hvalid
    have hans' : t.answers = rest := hans
    exact ⟨t.rxslot, t.rxlen, by simp [← hans']⟩
  | cons a reads ih =>
    intro payloads t hvalid hans
    rw [List.cons_append] at hans
    cases hvalid with
    | cons hfirst hvalid =>
      rename_i p payloads
      obtain ⟨herr, hdec⟩ := hfirst
      obtain ⟨rxslot, rxlen, hslots⟩ :=
        ih payloads { readSlot a { t with answers := reads ++ rest } with reply := t.reply ++ [p] } hvalid rfl
      refine ⟨rxslot, rxlen, ?_⟩
      rw [List.length_cons, Nat.add_right_comm, refSlots_valid hans _ herr hdec, hslots]
      simp [readSlot, storeSlot]

/-- The state in which the slots of an attempt begin: the write is accepted (R153, R154). -/
def collecting (d : Answer) (rest : List Answer) (s : State) : State :=
  { s with
    answers := rest, reply := [], lastDetail := 0
    history := s.history ++ drainEvents s.xCmd d ++ [.write s.txbuf 13 false] }

/-- An attempt whose write is accepted is the verdict on its slots (R154, R158). -/
theorem refAttempt_accepted {s : State} {d w : Answer} {rest : List Answer} (hans : s.answers = d :: w :: rest)
    (hwrite : AcceptedWrite w) :
    refAttempt s = (refSlots s.xN.toNat (collecting d rest s)).map refCollected := by
  obtain ⟨herr, hcount⟩ := hwrite
  rw [refAttempt_two hans, afterDrain_eq, refWrite, if_neg (by simp [herr]), if_neg (by simp [hcount]), herr, hcount]
  rfl

/-- A collection with a frame in it succeeds (R160). -/
theorem refCollected_some {t : State} (h : t.reply ≠ []) : refCollected t = (t, true) := if_neg h

/-- A collection with no frame in it fails with the detail of its last read (R158). -/
theorem refCollected_none {t : State} (h : t.reply = []) :
    refCollected t = (refFail .noValidFrames t.lastDetail 0 t, false) := if_pos h

/-- An attempt that collects some valid frames before a read ends it succeeds with them (R160). -/
theorem refAttempt_fewer {s : State} {d w e : Answer} {reads rest : List Answer} {payloads : List Payload}
    (hans : s.answers = d :: w :: (reads ++ e :: rest)) (hwrite : AcceptedWrite w) (hsome : reads ≠ [])
    (hfew : reads.length < s.xN.toNat) (hvalid : ValidReads s.xCmd reads payloads)
    (hend : e.err = true ∨ (readBytes e).length < 13) (hcmd : s.txbuf.cmd = s.xCmd) :
    ∃ rxslot rxlen, refAttempt s = some ({ s with
      answers := rest, reply := payloads
      history := s.history ++ (attemptEvents s.txbuf d (reads ++ [e]) ++ (shortReadLogs e).map .log)
      lastDetail := detailCode (endDetail e), rxslot, rxlen }, true) := by
  obtain ⟨k, hk⟩ : ∃ k, s.xN.toNat = reads.length + (k + 1) := ⟨s.xN.toNat - reads.length - 1, by omega⟩
  have hpayloads : payloads ≠ [] := fun h => hsome (List.length_eq_zero_iff.mp (by rw [hvalid.length_eq, h]; rfl))
  obtain ⟨rxslot, rxlen, hslots⟩ := refSlots_validReads_then (k + 1) (rest := e :: rest) reads payloads
    (collecting d (reads ++ e :: rest) s) hvalid rfl
  refine ⟨Frame.ofBytes (readBytes e ++ rxslot.toBytes.drop (readBytes e).length),
    BitVec.ofNat 4 (readBytes e).length, ?_⟩
  rw [refAttempt_accepted hans hwrite, hk, hslots, refSlots_ended rfl k hend, Option.map_some,
    refCollected_some (by exact hpayloads)]
  simp [collecting, storeSlot, attemptEvents, hcmd]

/-- An exchange is its first attempt where that succeeds (R158). -/
theorem refExchange_of_success {s t : State} {cmd n : Byte} {extra : List Byte} (r : Byte)
    (cleared after : State → State) (hlink : s.link = true) (hextra : extra.length ≤ 8)
    (h : refAttempt { latchedExchange cmd extra n r s with txbuf := requestFrame s.params s.addrVariant cmd extra } =
      some (t, true)) :
    refExchange cmd extra n r cleared after s = some (complete (after t)) := by
  rw [refExchange_ok n r cleared after hlink (codecEncode_ok hextra), refLoop_of_success h]
  rfl

/-- Settles O32: the read after the valid frames ends the collection, which has a frame. -/
theorem sendSucceedsWithFewerFrames : Obligations.SendSucceedsWithFewerFrames := by
  intro s cmd n r extra d w e reads rest payloads hidle hlink hextra hans hwrite hone hfew hvalid hend
  obtain ⟨hbusy, -, -⟩ := hidle
  obtain ⟨rxslot, rxlen, hattempt⟩ := refAttempt_fewer
    (s := { latchedExchange cmd extra n r s with txbuf := requestFrame s.params s.addrVariant cmd extra })
    hans hwrite (List.length_pos_iff.mp hone) hfew hvalid hend rfl
  obtain ⟨t, hrun, hdone, hframe, hanswers, hhistory⟩ :=
    plainExchange_done (.inl rfl) (refExchange_of_success r dropReply id hlink hextra hattempt)
  refine ⟨t, hrun ▸ exec_send_idle hbusy cmd n r extra, hdone, hframe, hanswers, ?_⟩
  rw [hhistory, List.append_assoc]
  unfold shortReadLogs
  split <;> rfl

/-! ### An exchange whose every attempt fails alike (R152, R158, R159) -/

/-- An attempt at the exchange of `n` frames for `cmd` with request frame `f` that gets `block` as its answers appends
`events` and fails with this record. -/
def AttemptFails (cmd n : Byte) (f : Frame) (block : List Answer) (events : List Event) (cause : Err)
    (detail written : Byte) : Prop :=
  ∀ (s : State) (rest : List Answer), s.xCmd = cmd → s.xN = n → s.txbuf = f → s.answers = block ++ rest →
    ∃ rxslot rxlen, refAttempt s = some (refFail cause detail written { s with
      answers := rest, reply := [], history := s.history ++ events, rxslot, rxlen }, false)

section
variable {cmd n : Byte} {f : Frame} {block rest : List Answer} {events : List Event} {cause : Err}
  {detail written : Byte} (hfails : AttemptFails cmd n f block events cause detail written)
include hfails

/-- The loop makes all its attempts, with the backoff between one and the next (R158, R159). -/
theorem refLoop_fails : ∀ (k : Nat) (s : State), s.xCmd = cmd → s.xN = n → s.txbuf = f →
    s.answers = (List.replicate (k + 1) block).flatten ++ rest →
    ∃ rxslot rxlen, refLoop k s = some (refFail cause detail written { s with
      answers := rest, reply := [], history := s.history ++ attemptsEvents events (k + 1), rxslot, rxlen }, false) := by
  intro k
  induction k with
  | zero =>
    intro s hcmd hn hf hans
    exact hfails s rest hcmd hn hf (by simpa using hans)
  | succ k ih =>
    intro s hcmd hn hf hans
    rw [List.replicate_succ, List.flatten_cons, List.append_assoc] at hans
    obtain ⟨rxslot, rxlen, hattempt⟩ := hfails s _ hcmd hn hf hans
    obtain ⟨rxslot', rxlen', hloop⟩ := ih (emit (.delay Config.backoffMs) (refFail cause detail written { s with
      answers := (List.replicate (k + 1) block).flatten ++ rest, reply := [], history := s.history ++ events
      rxslot, rxlen })) hcmd hn hf rfl
    refine ⟨rxslot', rxlen', ?_⟩
    rw [refLoop_succ, hattempt]
    refine Eq.trans hloop ?_
    simp [refFail, attemptsEvents, emit, Config.backoffMs]

end

/-- An exchange of `max(1, R)` attempts that all fail alike (R152, R159). -/
theorem refExchange_fails {s : State} {cmd n : Byte} {extra : List Byte} {block rest : List Answer}
    {events : List Event} {cause : Err} {detail written : Byte} (r : Byte) (cleared after : State → State)
    (hfails : AttemptFails cmd n (requestFrame s.params s.addrVariant cmd extra) block events cause detail written)
    (hlink : s.link = true) (hextra : extra.length ≤ 8)
    (hans : s.answers = (List.replicate (max 1 r.toNat) block).flatten ++ rest) :
    ∃ rxslot rxlen, refExchange cmd extra n r cleared after s = some (raise .exchangeFailed (cleared
      (refFail cause detail written { latchedExchange cmd extra n r s with
        txbuf := requestFrame s.params s.addrVariant cmd extra, answers := rest, reply := []
        history := s.history ++ attemptsEvents events (max 1 r.toNat), rxslot, rxlen }))) := by
  have hcount : (clampRetries r).toNat - 1 + 1 = max 1 r.toNat := by rw [clampRetries_toNat]; omega
  obtain ⟨rxslot, rxlen, hloop⟩ := refLoop_fails hfails ((clampRetries r).toNat - 1)
    { latchedExchange cmd extra n r s with txbuf := requestFrame s.params s.addrVariant cmd extra } rfl rfl rfl
    (by rw [hcount]; exact hans)
  refine ⟨rxslot, rxlen, ?_⟩
  rw [refExchange_ok n r cleared after hlink (codecEncode_ok hextra), hloop, hcount]
  rfl

/-- What an exchange that failed leaves: the record of its last attempt in the cause registers, and what no exchange writes
unchanged (R159, R262, R263). The series is what the operation's clearing leaves of it. -/
theorem exchangeFailed_of_endsAs {cmd : Byte} {extra : List Byte} {n r : Byte} {s u : State} {events : List Event}
    {rest : List Answer} {cause : Err} {detail written : Byte} {rxslot : Frame} {rxlen : BitVec 4} {series : List Int}
    {resPages : Byte} (hdetail : cause ≠ .noValidFrames → detail = 0) (hwritten : cause ≠ .writeError → written = 0)
    (h : EndsAs u (some (raise .exchangeFailed { refFail cause detail written
      { latchedExchange cmd extra n r { s with resPages } with
        txbuf := requestFrame s.params s.addrVariant cmd extra, answers := rest, reply := []
        history := s.history ++ events, rxslot, rxlen } with reply := [], series }))) :
    ExchangeFailedWith cmd extra (errCode cause) detail written s u ∧ u.resPages = resPages ∧ u.series = series ∧
      u.expIdx = s.expIdx ∧ SamePorts s u ∧ SameSession s u ∧ SameConfig s u ∧ SameOtherResults s u ∧
      u.answers = rest ∧ u.history = s.history ++ events := by
  have hd : (if errCode cause = 0x09 then detail else 0) = detail := by
    by_cases hc : cause = .noValidFrames
    · rw [hc]; rfl
    · rw [hdetail hc, ite_self]
  have hw : (if errCode cause = 0x08 then written else 0) = written := by
    by_cases hc : cause = .writeError
    · rw [hc]; rfl
    · rw [hwritten hc, ite_self]
  have heq : hideCounters u = hideCounters _ := h
  simp only [hideCounters, raise_exchangeFailed, refFail, latchedExchange, hd, hw, State.mk.injEq] at heq
  simp [ExchangeFailedWith, Idle, SamePorts, SameSession, SameConfig, SameOtherResults, heq]

/-- What SEND leaves where every attempt failed alike. -/
theorem send_fails {s : State} {cmd n r : Byte} {extra : List Byte} {block rest : List Answer}
    {events : List Event} {cause : Err} {detail written : Byte}
    (hfails : AttemptFails cmd n (requestFrame s.params s.addrVariant cmd extra) block events cause detail written)
    (hdetail : cause ≠ .noValidFrames → detail = 0) (hwritten : cause ≠ .writeError → written = 0)
    (hidle : Idle s) (hlink : s.link = true) (hextra : extra.length ≤ 8)
    (hans : s.answers = (List.replicate (max 1 r.toNat) block).flatten ++ rest) :
    ∃ t, exec (.send cmd n r extra) s = .next t ∧ ExchangeFailedWith cmd extra (errCode cause) detail written s t ∧
      ExchangeFrame s t ∧ t.answers = rest ∧
      t.history = s.history ++ attemptsEvents events (max 1 r.toNat) := by
  obtain ⟨hbusy, -, -⟩ := hidle
  have hends := exchange_endsAs (finishesAs_plain (.inl rfl)) cmd extra n r s
  obtain ⟨rxslot, rxlen, href⟩ := refExchange_fails r dropReply id hfails hlink hextra hans
  rw [href] at hends
  obtain ⟨hfailed, hpages, hseries, hidx, hports, hsession, hconfig, hresults, hlast⟩ :=
    exchangeFailed_of_endsAs (series := s.series) (resPages := s.resPages) hdetail hwritten hends
  exact ⟨_, exec_send_idle hbusy cmd n r extra, hfailed, ⟨hports, hsession, hconfig, hresults, hseries, hidx, hpages⟩,
    hlast⟩

/-! ### The failing attempts -/

/-- An attempt whose write fails (R154, R165, R166). -/
theorem refAttempt_writeFailed {s : State} {d w : Answer} {rest : List Answer} (hans : s.answers = d :: w :: rest)
    (hfail : w.err = true ∨ w.count ≠ 13) :
    refAttempt s = some (refFail (if w.err then .transportError else .writeError) 0
      (if w.err then 0 else BitVec.ofNat 8 (min w.count 255)) { s with
        answers := rest, reply := []
        history := s.history ++ (drainEvents s.xCmd d ++ [.write s.txbuf w.count w.err]) }, false) := by
  rw [refAttempt_two hans, afterDrain_eq, refWrite]
  by_cases herr : w.err = true
  · simp [herr, emit]
  · have hcount := hfail.resolve_left herr
    rw [Bool.not_eq_true] at herr
    simp [herr, hcount, emit]

theorem attemptFails_write {d w : Answer} (cmd n : Byte) (f : Frame) (hfail : w.err = true ∨ w.count ≠ 13) :
    AttemptFails cmd n f [d, w] (drainEvents cmd d ++ [.write f w.count w.err])
      (if w.err then .transportError else .writeError) 0 (if w.err then 0 else BitVec.ofNat 8 (min w.count 255)) := by
  rintro s rest rfl rfl rfl hans
  exact ⟨s.rxslot, s.rxlen, refAttempt_writeFailed hans hfail⟩

/-- With no slot to read an attempt collects nothing, and its detail stays NONE (R168). -/
theorem attemptFails_noSlots {d w : Answer} {cmd : Byte} {f : Frame} (hcmd : f.cmd = cmd) (hwrite : AcceptedWrite w) :
    AttemptFails cmd 0 f [d, w] (attemptEvents f d []) .noValidFrames 0x00 0 := by
  rintro s rest rfl hn rfl hans
  refine ⟨s.rxslot, s.rxlen, ?_⟩
  rw [refAttempt_accepted hans hwrite, hn]
  show some (refCollected (collecting d rest s)) = _
  rw [refCollected_none rfl]
  simp [collecting, refFail, attemptEvents, hcmd, hn]

/-- A first read of no bytes leaves an attempt without a frame, with detail NO_DATA (R156). -/
theorem attemptFails_silent {d w e : Answer} {cmd n : Byte} {f : Frame} (hcmd : f.cmd = cmd) (hn : n ≠ 0)
    (hwrite : AcceptedWrite w) (herr : e.err = false) (hbytes : e.bytes = []) :
    AttemptFails cmd n f [d, w, e] (attemptEvents f d [e]) .noValidFrames 0x02 0 := by
  rintro s rest rfl rfl rfl hans
  have hread : readBytes e = [] := by rw [readBytes, hbytes]; rfl
  obtain ⟨k, hk⟩ : ∃ k, s.xN.toNat = k + 1 :=
    Nat.exists_eq_succ_of_ne_zero fun h => hn (BitVec.eq_of_toNat_eq h)
  have hslots := refSlots_ended (s := collecting d (e :: rest) s) rfl k (.inr (by rw [hread]; decide))
  refine ⟨(storeSlot (readBytes e) s).rxslot, (storeSlot (readBytes e) s).rxlen, ?_⟩
  rw [refAttempt_accepted (rest := e :: rest) hans hwrite, hk, hslots, Option.map_some, refCollected_none rfl]
  simp [collecting, refFail, storeSlot, attemptEvents, hcmd, endDetail, shortReadLogs, herr, hread, detailCode]

/-- Settles O33: every attempt ends at its write. -/
theorem sendRetriesAFailingWrite : Obligations.SendRetriesAFailingWrite := by
  intro s cmd n r extra d w rest hidle hlink hextra hfail hans
  have hcause : errCode (if w.err then .transportError else .writeError) = if w.err then 0x01 else 0x08 := by
    split <;> rfl
  rw [← hcause]
  refine send_fails (attemptFails_write cmd n _ hfail) (fun _ => rfl) (fun h => ?_) hidle hlink hextra hans
  by_cases herr : w.err = true
  · exact if_pos herr
  · exact absurd (if_neg herr) h

/-- Settles O34: every attempt ends at its first read. -/
theorem sendToASilentDeviceFailsAfterAllAttempts : Obligations.SendToASilentDeviceFailsAfterAllAttempts := by
  intro s cmd n r extra d w e rest hidle hlink hextra hn hwrite herr hbytes hans
  exact send_fails (attemptFails_silent rfl hn hwrite herr hbytes) (fun h => absurd rfl h) (fun _ => rfl) hidle hlink
    hextra hans

/-- Settles O35: every attempt ends at its write, which is accepted. -/
theorem sendOfNoSlotsAlwaysFails : Obligations.SendOfNoSlotsAlwaysFails := by
  intro s cmd r extra d w rest hidle hlink hextra hwrite hans
  exact send_fails (attemptFails_noSlots rfl hwrite) (fun h => absurd rfl h) (fun _ => rfl) hidle hlink hextra hans

/-- A paginated query of no pages makes attempts of no slots (R168, R193). -/
theorem paginated_noPages {op : Byte → Running} {w : Nat} {count : Byte} {kind : PageKind} {cmd : Byte} {s : State}
    {d wr : Answer} {rest : List Answer}
    (hop : FinishesAs (op count) clearedPages (reassembledPages w count.toNat)) (hlink : s.link = true)
    (hsession : s.sessionValid = true) (hplan : pagePlan kind s = 0) (hwrite : AcceptedWrite wr)
    (hans : s.answers = (List.replicate (max 1 s.retries.toNat) [d, wr]).flatten ++ rest) :
    ∃ t, paginated kind op cmd count { s with engBusy := true } = t ∧ ExchangeFailedWith cmd [] 0x09 0x00 0 s t ∧
      t.resPages = 0 ∧ t.series = [] ∧ t.expIdx = s.expIdx ∧
      SamePorts s t ∧ SameSession s t ∧ SameConfig s t ∧ SameOtherResults s t ∧ t.answers = rest ∧
      t.history = s.history ++ attemptsEvents
        (attemptEvents (requestFrame s.params s.addrVariant cmd []) d []) (max 1 s.retries.toNat) := by
  have hpages : BitVec.ofNat 8 (pagePlan kind s) = 0 := by rw [hplan]; rfl
  have hends := paginated_endsAs kind cmd s hop
  obtain ⟨rxslot, rxlen, href⟩ := refExchange_fails (s := { s with resPages := 0 }) (cmd := cmd) (extra := [])
    s.retries clearedPages (reassembledPages w count.toNat) (attemptFails_noSlots rfl hwrite) hlink (Nat.zero_le 8) hans
  rw [refPaginated_session hsession, hpages, href] at hends
  exact ⟨_, rfl, exchangeFailed_of_endsAs (fun h => absurd rfl h) (fun _ => rfl) hends⟩

/-- Settles O45: both paginated queries run an exchange of the planned number of slots, here none. -/
theorem aPaginatedQueryOfNoPagesFails : Obligations.APaginatedQueryOfNoPagesFails := by
  intro s d w rest hidle hlink hsession hwrite hans
  obtain ⟨hbusy, -, -⟩ := hidle
  refine ⟨fun hplan => ?_, fun hplan => ?_⟩
  · obtain ⟨t, hrun, hfailed⟩ :=
      paginated_noPages (finishesAs_queryCells (sessionCells s)) hlink hsession hplan hwrite hans
    exact ⟨t, hrun ▸ exec_queryCells_idle hbusy, hfailed⟩
  · obtain ⟨t, hrun, hfailed⟩ :=
      paginated_noPages (finishesAs_queryTemps (sessionSensors s)) hlink hsession hplan hwrite hans
    exact ⟨t, hrun ▸ exec_queryTemps_idle hbusy, hfailed⟩

/-! ### Too many extra bytes (R161) -/

/-- What an exchange of more than 8 extra bytes leaves: EncodingError, and no event (R161, R265). -/
theorem longExtra_refused {op : Running} (hop : op = .send ∨ op = .query ∨ op = .set) {extra : List Byte} {s : State}
    (hlink : s.link = true) (hextra : 8 < extra.length) (cmd n r : Byte) :
    ∃ t, settle (startExchange op cmd extra n r { s with engBusy := true }) = t ∧ Idle t ∧ EngError .encodingError t ∧
      t.reply = [] ∧ t.txbuf = s.txbuf ∧ t.history = s.history ∧ t.answers = s.answers ∧ ExchangeFrame s t := by
  have hends := exchange_endsAs (finishesAs_plain hop) cmd extra n r s
  rw [refExchange_error n r dropReply id hlink (codecEncode_long hextra)] at hends
  have heq : hideCounters (settle (startExchange op cmd extra n r { s with engBusy := true })) = hideCounters _ := hends
  rw [raise_eq (by decide)] at heq
  simp only [hideCounters, dropReply, latchedExchange, State.mk.injEq] at heq
  refine ⟨_, rfl, ?_⟩
  simp [Idle, EngError, ExchangeFrame, SamePorts, SameSession, SameConfig, SameOtherResults, SamePages, heq]

/-- Settles O39: CHECK refuses the exchange before its first drain. -/
theorem longExtraBytesAreNotSent : Obligations.LongExtraBytesAreNotSent := by
  rintro s i cmd extra ⟨hbusy, -, -⟩ hlink hextra (rfl | ⟨n, r, rfl⟩)
  · obtain ⟨t, hrun, hrefused⟩ := longExtra_refused (.inr (.inr rfl)) hlink hextra cmd 1 s.retries
    exact ⟨t, hrun ▸ exec_set_idle hbusy cmd extra, hrefused⟩
  · obtain ⟨t, hrun, hrefused⟩ := longExtra_refused (.inl rfl) hlink hextra cmd n r
    exact ⟨t, hrun ▸ exec_send_idle hbusy cmd n r extra, hrefused⟩

end Sys2Proof.Machine
/-! PROOFS. What the events of an exchange say of it (spec/41_dispatcher.md R169, R170): its attempts, drains, writes,
backoffs and reads, the frames of the last attempt, and the record of a failure. Followed along the slots, the attempts and
the loop of the pseudo-code, whose exchange each of the six operations runs (R210). -/

namespace Sys2Proof.Machine

/-! ### How each event is read -/

theorem collected_write (cmd : Byte) (past : List Event) (f : Frame) (k : Nat) (err : Bool) :
    collected cmd (past ++ [.write f k err]) = [] := by
  simp [collected, List.foldl_append]

/-- A valid frame adds its payload (R157). -/
theorem collected_valid {cmd : Byte} {a : Answer} {p : Payload} (past : List Event) (herr : a.err = false)
    (hdec : codecDecode (readBytes a) cmd = .ok p) :
    collected cmd (past ++ [readEvent a]) = collected cmd past ++ [p] := by
  simp [collected, readEvent, List.foldl_append, herr, hdec]

/-- A read that reports an error, or whose bytes fail Decode, adds nothing (R157, R165). -/
theorem collected_invalid {cmd : Byte} {a : Answer} (past : List Event)
    (h : a.err = true ∨ ∃ e, codecDecode (readBytes a) cmd = .error e) :
    collected cmd (past ++ [readEvent a]) = collected cmd past := by
  cases herr : a.err with
  | true => simp [collected, readEvent, List.foldl_append, herr]
  | false =>
    obtain ⟨e, hdec⟩ := h.resolve_left (by simp [herr])
    simp [collected, readEvent, List.foldl_append, herr, hdec]

theorem collected_logs (cmd : Byte) (logs : List LogEvent) (past : List Event) :
    collected cmd (past ++ logs.map .log) = collected cmd past := by
  induction logs generalizing past with
  | nil => simp
  | cons e logs ih =>
    rw [List.map_cons, List.append_cons, ih]
    simp [collected, List.foldl_append]

theorem failureRecord_write (cmd : Byte) (past : List Event) (f : Frame) (k : Nat) (err : Bool) :
    failureRecord cmd (past ++ [.write f k err]) =
      if err then (0x01, 0, 0) else if k = 13 then (0x09, 0, 0) else (0x08, 0, BitVec.ofNat 8 (min k 255)) := by
  cases err <;> simp [failureRecord, List.foldl_append]

theorem failureRecord_readError {a : Answer} (cmd : Byte) (past : List Event) (herr : a.err = true) :
    failureRecord cmd (past ++ [readEvent a]) = (0x09, 0x01, 0) := by
  simp [failureRecord, readEvent, List.foldl_append, herr]

theorem failureRecord_read {a : Answer} (cmd : Byte) (past : List Event) (herr : a.err = false) :
    failureRecord cmd (past ++ [readEvent a]) =
      if (readBytes a).length = 0 then (0x09, 0x02, 0)
      else if (readBytes a).length < 13 then (0x09, 0x03, 0)
      else if (readBytes a).getD 12 0 ≠ checksum ((readBytes a).take 12) then (0x09, 0x04, 0)
      else if (readBytes a).getD 2 0 ≠ cmd then (0x09, 0x05, 0)
      else failureRecord cmd past := by
  rw [readEvent, herr]
  simp only [failureRecord, List.foldl_append, List.foldl_cons, List.foldl_nil]

/-- A valid frame leaves the record as it was (R157). -/
theorem failureRecord_valid {cmd : Byte} {a : Answer} {p : Payload} (past : List Event) (herr : a.err = false)
    (hdec : codecDecode (readBytes a) cmd = .ok p) :
    failureRecord cmd (past ++ [readEvent a]) = failureRecord cmd past := by
  obtain ⟨hlen, hck : (readBytes a).getD 12 0 = _, hcmd : (readBytes a).getD 2 0 = _, -⟩ := codecDecode_ok.mp hdec
  rw [failureRecord_read cmd past herr, if_neg (by omega), if_neg (by omega), if_neg (not_not.mpr hck),
    if_neg (not_not.mpr hcmd)]

/-- A frame that fails Decode leaves its detail (R157, R267). -/
theorem failureRecord_invalid {cmd : Byte} {a : Answer} {e : Err} (past : List Event) (herr : a.err = false)
    (hlen : (readBytes a).length = 13) (hdec : codecDecode (readBytes a) cmd = .error e) :
    failureRecord cmd (past ++ [readEvent a]) = (0x09, detailCode (slotDetail e), 0) := by
  rw [failureRecord_read cmd past herr, if_neg (by omega), if_neg (by omega)]
  by_cases hck : (readBytes a).getD 12 0 = checksum ((readBytes a).take 12)
  · by_cases hcmd : (readBytes a).getD 2 0 = cmd
    · rw [codecDecode_ok.mpr ⟨hlen, hck, hcmd, rfl⟩] at hdec
      cases hdec
    · rw [codecDecode_of_cmd_ne hlen hck hcmd] at hdec
      cases hdec
      rw [if_neg (not_not.mpr hck), if_pos hcmd]
      rfl
  · rw [codecDecode_of_checksum_ne hlen hck] at hdec
    cases hdec
    rw [if_pos hck]
    rfl

/-- A read that ends the collection leaves its detail (R156, R165). -/
theorem failureRecord_ended {a : Answer} (cmd : Byte) (past : List Event)
    (hend : a.err = true ∨ (readBytes a).length < 13) :
    failureRecord cmd (past ++ [readEvent a]) = (0x09, detailCode (endDetail a), 0) := by
  unfold endDetail
  cases herr : a.err with
  | true => exact failureRecord_readError cmd past herr
  | false =>
    have hlen := hend.resolve_left (by simp [herr])
    rw [failureRecord_read cmd past herr, if_pos hlen]
    by_cases hzero : (readBytes a).length = 0
    · simp [hzero, detailCode]
    · simp [hzero, detailCode]

theorem failureRecord_logs (cmd : Byte) (logs : List LogEvent) (past : List Event) :
    failureRecord cmd (past ++ logs.map .log) = failureRecord cmd past := by
  induction logs generalizing past with
  | nil => simp
  | cons e logs ih =>
    rw [List.map_cons, List.append_cons, ih]
    simp [failureRecord, List.foldl_append]

/-! ### Counting events -/

/-- Events of `attempts` attempts with request frame `f`: as many drains and writes, `delays` backoffs, at most `reads`
reads. -/
structure ExchangeEvents (f : Frame) (attempts delays reads : Nat) (events : List Event) : Prop where
  drains : events.countP isDrain = attempts
  writes : events.countP isWrite = attempts
  delays : events.countP isDelay = delays
  reads : events.countP isRead ≤ reads
  frames : ∀ g k err, Event.write g k err ∈ events → g = f

theorem ExchangeEvents.append {f : Frame} {a b d e r q : Nat} {xs ys : List Event} (hx : ExchangeEvents f a d r xs)
    (hy : ExchangeEvents f b e q ys) : ExchangeEvents f (a + b) (d + e) (r + q) (xs ++ ys) where
  drains := by rw [List.countP_append, hx.drains, hy.drains]
  writes := by rw [List.countP_append, hx.writes, hy.writes]
  delays := by rw [List.countP_append, hx.delays, hy.delays]
  reads := by rw [List.countP_append]; exact Nat.add_le_add hx.reads hy.reads
  frames := fun g k err h => (List.mem_append.mp h).elim (hx.frames g k err) (hy.frames g k err)

theorem ExchangeEvents.mono {f : Frame} {a d r q : Nat} {xs : List Event} (h : ExchangeEvents f a d r xs) (hr : r ≤ q) :
    ExchangeEvents f a d q xs := { h with reads := h.reads.trans hr }

theorem exchangeEvents_logs (f : Frame) (logs : List LogEvent) : ExchangeEvents f 0 0 0 (logs.map .log) := by
  constructor <;> simp [List.countP_map, Function.comp_def, isDrain, isWrite, isDelay, isRead]

theorem exchangeEvents_read (f : Frame) (a : Answer) : ExchangeEvents f 0 0 1 [readEvent a] := by
  constructor <;> simp [readEvent, isDrain, isWrite, isDelay, isRead]

theorem exchangeEvents_delay (f : Frame) : ExchangeEvents f 0 1 0 [.delay Config.backoffMs] := by
  constructor <;> simp [Config.backoffMs, isDrain, isWrite, isDelay, isRead]

/-- The drain and the write that an attempt begins with (R153, R154). -/
theorem exchangeEvents_start (f : Frame) (cmd : Byte) (d : Answer) (k : Nat) (err : Bool) :
    ExchangeEvents f 1 0 0 (drainEvents cmd d ++ [.write f k err]) := by
  have hframes : ∀ g j e, Event.write g j e ∈ drainEvents cmd d ++ [.write f k err] → g = f := by
    intro g j e h
    have hlast : Event.write g j e = .write f k err := by
      rcases List.mem_append.mp h with h | h
      · cases herr : d.err <;> simp [drainEvents, herr] at h
      · exact List.mem_singleton.mp h
    cases hlast
    rfl
  obtain ⟨count, bytes, derr⟩ := d
  cases derr <;> exact ⟨rfl, rfl, rfl, Nat.le_refl 0, hframes⟩

/-! ### The slots of an attempt -/

/-- What an exchange keeps from its latching to its end: the latched command and count, the request frame, and the session
registers (R41, R154, R215). -/
structure SameRequest (s t : State) : Prop where
  cmd : t.xCmd = s.xCmd
  count : t.xN = s.xN
  frame : t.txbuf = s.txbuf
  sessionValid : t.sessionValid = s.sessionValid
  sessionStatus : t.sessionStatus = s.sessionStatus

theorem sameRequest_emit (e : Event) (s : State) : SameRequest s (emit e s) := ⟨rfl, rfl, rfl, rfl, rfl⟩

theorem sameRequest_refFail (cause : Err) (detail written : Byte) (s : State) :
    SameRequest s (refFail cause detail written s) := ⟨rfl, rfl, rfl, rfl, rfl⟩

theorem sameRequest_collecting (d : Answer) (rest : List Answer) (s : State) : SameRequest s (collecting d rest s) :=
  ⟨rfl, rfl, rfl, rfl, rfl⟩

theorem SameRequest.trans {s t u : State} (h : SameRequest s t) (h' : SameRequest t u) : SameRequest s u :=
  ⟨h'.cmd.trans h.cmd, h'.count.trans h.count, h'.frame.trans h.frame, h'.sessionValid.trans h.sessionValid,
    h'.sessionStatus.trans h.sessionStatus⟩

/-- What the slots of an attempt, at most `m` of them, do from `s` to `t`, read off the events `new` they append: each valid
frame is collected, and the detail is that of the last read that gave none. -/
structure SlotsRead (m : Nat) (s t : State) (new : List Event) : Prop where
  history : t.history = s.history ++ new
  request : SameRequest s t
  events : ExchangeEvents s.txbuf 0 0 m new
  length : t.reply.length ≤ s.reply.length + m
  collected : ∀ past, collected s.xCmd past = s.reply → collected s.xCmd (past ++ new) = t.reply
  record : ∀ past, failureRecord s.xCmd past = (0x09, s.lastDetail, 0) →
    failureRecord s.xCmd (past ++ new) = (0x09, t.lastDetail, 0)

theorem slotsRead_nil (s : State) : SlotsRead 0 s s [] where
  history := (List.append_nil _).symm
  request := ⟨rfl, rfl, rfl, rfl, rfl⟩
  events := exchangeEvents_logs s.txbuf []
  length := le_refl _
  collected := fun past h => by rw [List.append_nil, h]
  record := fun past h => by rw [List.append_nil, h]

/-- Slots after slots. -/
theorem SlotsRead.trans {m k : Nat} {s t u : State} {xs ys : List Event} (hx : SlotsRead m s t xs)
    (hy : SlotsRead k t u ys) : SlotsRead (m + k) s u (xs ++ ys) where
  history := by rw [hy.history, hx.history, List.append_assoc]
  request := hx.request.trans hy.request
  events := by
    have := hx.events.append (hx.request.frame ▸ hy.events)
    simpa using this
  length := by have := hx.length; have := hy.length; omega
  collected := fun past h => by
    rw [← List.append_assoc, ← hx.request.cmd]
    exact hy.collected _ (hx.request.cmd ▸ hx.collected past h)
  record := fun past h => by
    rw [← List.append_assoc, ← hx.request.cmd]
    exact hy.record _ (hx.request.cmd ▸ hx.record past h)

/-- One slot with a valid frame (R157). -/
theorem slotsRead_valid {s : State} {a : Answer} {p : Payload} (rest : List Answer) (herr : a.err = false)
    (hdec : codecDecode (readBytes a) s.xCmd = .ok p) :
    SlotsRead 1 s { readSlot a { s with answers := rest } with reply := s.reply ++ [p] } [readEvent a] where
  history := rfl
  request := ⟨rfl, rfl, rfl, rfl, rfl⟩
  events := exchangeEvents_read _ a
  length := by simp
  collected := fun past h => by rw [collected_valid past herr hdec, h]
  record := fun past h => (failureRecord_valid past herr hdec).trans h

/-- One slot with a frame that fails Decode (R157, R167). -/
theorem slotsRead_invalid {s : State} {a : Answer} {e : Err} (rest : List Answer) (herr : a.err = false)
    (hlen : (readBytes a).length = 13) (hdec : codecDecode (readBytes a) s.xCmd = .error e) :
    SlotsRead 1 s { readSlot a { s with answers := rest } with lastDetail := detailCode (slotDetail e) }
      [readEvent a] where
  history := rfl
  request := ⟨rfl, rfl, rfl, rfl, rfl⟩
  events := exchangeEvents_read _ a
  length := Nat.le_succ _
  collected := fun past h => by rw [collected_invalid past (.inr ⟨e, hdec⟩), h]; rfl
  record := fun past _ => failureRecord_invalid past herr hlen hdec

/-- One slot whose read ends the collection (R156, R165). -/
theorem slotsRead_ended {s : State} {a : Answer} (rest : List Answer)
    (hend : a.err = true ∨ (readBytes a).length < 13) :
    SlotsRead 1 s { storeSlot (readBytes a) s with
        answers := rest, history := s.history ++ [readEvent a] ++ (shortReadLogs a).map .log
        lastDetail := detailCode (endDetail a) }
      ([readEvent a] ++ (shortReadLogs a).map .log) where
  history := List.append_assoc _ _ _
  request := ⟨rfl, rfl, rfl, rfl, rfl⟩
  events := (exchangeEvents_read _ a).append (exchangeEvents_logs _ _)
  length := Nat.le_succ _
  collected := fun past h => by
    rw [← List.append_assoc, collected_logs, collected_invalid past
      (hend.imp_right fun hlen => ⟨.shortFrame, codecDecode_of_length_ne (by omega)⟩), h]
    rfl
  record := fun past _ => by rw [← List.append_assoc, failureRecord_logs, failureRecord_ended _ past hend]

theorem SlotsRead.mono {m k : Nat} {s t : State} {new : List Event} (h : SlotsRead m s t new) (hk : m ≤ k) :
    SlotsRead k s t new := { h with events := h.events.mono hk, length := h.length.trans (by omega) }

/-- The pseudo-code's loop over the slots reads slot after slot. -/
theorem refSlots_read : ∀ (m : Nat) {s t : State}, refSlots m s = some t → ∃ new, SlotsRead m s t new := by
  intro m
  induction m with
  | zero =>
    intro s t h
    cases h
    exact ⟨[], slotsRead_nil s⟩
  | succ m ih =>
    intro s t h
    cases hans : s.answers with
    | nil => simp [refSlots, hans] at h
    | cons a rest =>
      by_cases hend : a.err = true ∨ (readBytes a).length < 13
      · rw [refSlots_ended hans m hend] at h
        cases h
        exact ⟨_, (slotsRead_ended rest hend).mono (by omega)⟩
      · obtain ⟨herr, hfull⟩ := not_or.mp hend
        rw [Bool.not_eq_true] at herr
        have hlen : (readBytes a).length = 13 := by have := readBytes_length_le a; omega
        rw [Nat.add_comm m 1]
        cases hdec : codecDecode (readBytes a) s.xCmd with
        | ok p =>
          rw [refSlots_valid hans m herr hdec] at h
          obtain ⟨new, hnew⟩ := ih h
          exact ⟨_, (slotsRead_valid rest herr hdec).trans hnew⟩
        | error e =>
          rw [refSlots_invalid hans m herr hfull hdec] at h
          obtain ⟨new, hnew⟩ := ih h
          exact ⟨_, (slotsRead_invalid rest herr hlen hdec).trans hnew⟩

/-! ### The attempts -/

/-- The cause registers that a failure with the record of `t` leaves (R159). -/
def failureCodes (t : State) : Byte × Byte × Byte :=
  (t.lastCause, if t.lastCause = 0x09 then t.lastDetail else 0, if t.lastCause = 0x08 then t.lastWritten else 0)

/-- What `attempts` attempts do from `s` to `t`, where the last of them has the verdict `ok`, read off the events `new` they
append. -/
structure Attempted (attempts : Nat) (s t : State) (ok : Bool) (new : List Event) : Prop where
  history : t.history = s.history ++ new
  request : SameRequest s t
  events : ExchangeEvents s.txbuf attempts (attempts - 1) (attempts * s.xN.toNat) new
  failed : ok = false → ∀ past, failureRecord s.xCmd (past ++ new) = failureCodes t
  succeeded : ok = true →
    (∀ past, collected s.xCmd (past ++ new) = t.reply) ∧ t.reply ≠ [] ∧ t.reply.length ≤ s.xN.toNat

/-- An attempt whose write fails leaves the write's record (R154, R165). -/
theorem attempted_writeFailed {s : State} {w : Answer} (d : Answer) (rest : List Answer)
    (hfail : w.err = true ∨ w.count ≠ 13) :
    Attempted 1 s (refFail (if w.err then .transportError else .writeError) 0
      (if w.err then 0 else BitVec.ofNat 8 (min w.count 255)) { s with
        answers := rest, reply := []
        history := s.history ++ (drainEvents s.xCmd d ++ [.write s.txbuf w.count w.err]) }) false
      (drainEvents s.xCmd d ++ [.write s.txbuf w.count w.err]) where
  history := rfl
  request := ⟨rfl, rfl, rfl, rfl, rfl⟩
  events := (exchangeEvents_start s.txbuf s.xCmd d w.count w.err).mono (Nat.zero_le _)
  failed := fun _ past => by
    rw [← List.append_assoc, failureRecord_write]
    by_cases herr : w.err = true
    · simp [failureCodes, refFail, herr, errCode]
    · simp [failureCodes, refFail, herr, hfail.resolve_left herr, errCode]
  succeeded := nofun

/-- An attempt whose write is accepted is judged by its slots (R158, R160). -/
theorem attempted_collected {s t : State} {d : Answer} {rest : List Answer} {new : List Event}
    (h : SlotsRead s.xN.toNat (collecting d rest s) t new) :
    Attempted 1 s (refCollected t).1 (refCollected t).2 (drainEvents s.xCmd d ++ [.write s.txbuf 13 false] ++ new) := by
  have hevents := (exchangeEvents_start s.txbuf s.xCmd d 13 false).append h.events
  have hhistory : t.history = s.history ++ (drainEvents s.xCmd d ++ [.write s.txbuf 13 false] ++ new) := by
    rw [h.history]
    simp [collecting]
  have hcollected : ∀ past, collected s.xCmd (past ++ (drainEvents s.xCmd d ++ [.write s.txbuf 13 false] ++ new)) =
      t.reply := fun past => by
    rw [← List.append_assoc, ← List.append_assoc]
    exact h.collected _ (collected_write _ _ _ _ _)
  have hrecord : ∀ past, failureRecord s.xCmd (past ++ (drainEvents s.xCmd d ++ [.write s.txbuf 13 false] ++ new)) =
      (0x09, t.lastDetail, 0) := fun past => by
    rw [← List.append_assoc, ← List.append_assoc]
    exact h.record _ (failureRecord_write _ _ _ _ _)
  have hrequest := (sameRequest_collecting d rest s).trans h.request
  by_cases hreply : t.reply = []
  · rw [refCollected_none hreply]
    exact ⟨hhistory, hrequest.trans (sameRequest_refFail _ _ _ t), by simpa using hevents, fun _ => hrecord, nofun⟩
  · rw [refCollected_some hreply]
    have hlength := h.length
    exact ⟨hhistory, hrequest, by simpa using hevents, nofun,
      fun _ => ⟨hcollected, hreply, by simpa [collecting] using hlength⟩⟩

/-- R151's `Attempt()` is one attempt. -/
theorem refAttempt_attempted {s t : State} {ok : Bool} (h : refAttempt s = some (t, ok)) :
    ∃ new, Attempted 1 s t ok new := by
  match hans : s.answers with
  | [] => simp [refAttempt_nil hans] at h
  | [d] => simp [refAttempt_one hans] at h
  | d :: w :: rest =>
    by_cases hfail : w.err = true ∨ w.count ≠ 13
    · rw [refAttempt_writeFailed hans hfail] at h
      cases h
      exact ⟨_, attempted_writeFailed d rest hfail⟩
    · obtain ⟨herr, hcount⟩ := not_or.mp hfail
      rw [refAttempt_accepted hans ⟨by simpa using herr, not_not.mp hcount⟩] at h
      obtain ⟨u, hslots, hverdict⟩ := Option.map_eq_some_iff.mp h
      obtain ⟨new, hnew⟩ := refSlots_read _ hslots
      have hattempted := attempted_collected hnew
      rw [hverdict] at hattempted
      exact ⟨_, hattempted⟩

/-- After a failed attempt and the backoff, further attempts (R158). -/
theorem Attempted.delayed {m : Nat} {s t u : State} {ok : Bool} {xs ys : List Event} (hm : 1 ≤ m)
    (hx : Attempted 1 s t false xs) (hy : Attempted m (emit (.delay Config.backoffMs) t) u ok ys) :
    Attempted (m + 1) s u ok (xs ++ [.delay Config.backoffMs] ++ ys) where
  history := by rw [hy.history, emit_history, hx.history]; simp
  request := (hx.request.trans (sameRequest_emit _ t)).trans hy.request
  events := by
    have hdelay := hx.events.append (exchangeEvents_delay s.txbuf)
    have hrest : ExchangeEvents s.txbuf m (m - 1) (m * s.xN.toNat) ys := by
      have := hy.events
      rwa [emit_txbuf, hx.request.frame, emit_xN, hx.request.count] at this
    have hall := hdelay.append hrest
    rw [show 1 + 0 + m = m + 1 by omega, show 1 - 1 + 1 + (m - 1) = m + 1 - 1 by omega,
      show 1 * s.xN.toNat + 0 + m * s.xN.toNat = (m + 1) * s.xN.toNat by ring] at hall
    exact hall
  failed := fun hok past => by
    rw [← List.append_assoc, ← hx.request.cmd]
    exact hy.failed hok _
  succeeded := fun hok => by
    obtain ⟨hcollected, hreply, hlength⟩ := hy.succeeded hok
    refine ⟨fun past => ?_, hreply, hx.request.count ▸ hlength⟩
    rw [← List.append_assoc, ← hx.request.cmd]
    exact hcollected _

/-- R151's loop makes attempts until one succeeds, and all of them where none does (R152, R158, R159). -/
theorem refLoop_attempted : ∀ (k : Nat) {s t : State} {ok : Bool}, refLoop k s = some (t, ok) →
    ∃ attempts new, 1 ≤ attempts ∧ attempts ≤ k + 1 ∧ (ok = false → attempts = k + 1) ∧ Attempted attempts s t ok new := by
  intro k
  induction k with
  | zero =>
    intro s t ok h
    obtain ⟨new, hnew⟩ := refAttempt_attempted h
    exact ⟨1, new, le_refl _, le_refl _, fun _ => rfl, hnew⟩
  | succ k ih =>
    intro s t ok h
    rw [refLoop_succ] at h
    obtain ⟨⟨u, verdict⟩, hattempt, hrest⟩ := Option.bind_eq_some_iff.mp h
    obtain ⟨xs, hxs⟩ := refAttempt_attempted hattempt
    cases verdict with
    | true =>
      cases hrest
      exact ⟨1, xs, le_refl _, by omega, nofun, hxs⟩
    | false =>
      obtain ⟨m, ys, hpos, hle, hall, hys⟩ := ih hrest
      exact ⟨m + 1, _, by omega, by omega, fun hok => by rw [hall hok], hxs.delayed hpos hys⟩

/-! ### The end of an exchange, whichever operation runs it -/

/-- What the events that an exchange appended say of the state `t` it ended in (R159, R160, R169, R170, R210, R263). -/
def ExchangeOutcome (s : State) (i : Instr) (cmd : Byte) (extra : List Byte) (n r : Byte) (t : State) : Prop :=
  ∃ (attempts : Nat) (new : List Event), t.history = s.history ++ new ∧
    1 ≤ attempts ∧ attempts ≤ max 1 r.toNat ∧
    new.countP isDrain = attempts ∧ new.countP isWrite = attempts ∧ new.countP isDelay = attempts - 1 ∧
    new.countP isRead ≤ attempts * n.toNat ∧
    (∀ f k err, .write f k err ∈ new → f = requestFrame s.params s.addrVariant cmd extra) ∧
    ((t.engErr = 0x05 ∧ attempts = max 1 r.toNat ∧ t.engErrCmd = cmd ∧
        (t.engCause, t.engDetail, t.engWritten) = failureRecord cmd new ∧ t.reply = [] ∧ SameSession s t ∧
        (i = .queryCells ∨ i = .queryTemps → t.series = [])) ∨
     (EngClear t ∧ t.reply = collected cmd new ∧ 1 ≤ t.reply.length ∧ t.reply.length ≤ n.toNat ∧
        (i = .statusQuery → t.sessionValid = true ∧ t.reply = [t.sessionStatus]) ∧
        (i = .queryCells → t.series = seriesOf 2 (sessionCells s).toNat t.reply) ∧
        (i = .queryTemps → t.series = seriesOf 1 (sessionSensors s).toNat t.reply)))

/-- What the operation `i` issued in `s` does after its exchange of `n` slots: it clears what R263 says after an error, and
takes its own last step, which may log, after a success (R210). -/
structure ExchangeEnd (s : State) (i : Instr) (n : Byte) (cleared after : State → State) : Prop where
  cleared_eq : ∀ t, ∃ series, cleared t = { t with reply := [], series }
  cleared_series : i = .queryCells ∨ i = .queryTemps → ∀ t, (cleared t).series = []
  after_eq : ∀ t, ∃ sessionValid sessionStatus series expIdx, ∃ logs : List LogEvent, after t = { t with
    sessionValid, sessionStatus, series, expIdx, history := t.history ++ logs.map .log }
  after_own : ∀ t, t.reply ≠ [] → t.reply.length ≤ n.toNat →
    (i = .statusQuery → (after t).sessionValid = true ∧ (after t).reply = [(after t).sessionStatus]) ∧
    (i = .queryCells → (after t).series = seriesOf 2 (sessionCells s).toNat (after t).reply) ∧
    (i = .queryTemps → (after t).series = seriesOf 1 (sessionSensors s).toNat (after t).reply)

theorem exchangeEnd_plain {s : State} {i : Instr} {n : Byte} (hstatus : i ≠ .statusQuery) (hcells : i ≠ .queryCells)
    (htemps : i ≠ .queryTemps) : ExchangeEnd s i n dropReply id where
  cleared_eq := fun t => ⟨t.series, rfl⟩
  cleared_series := fun h => absurd h (by simp [hcells, htemps])
  after_eq := fun t => ⟨t.sessionValid, t.sessionStatus, t.series, t.expIdx, [], by simp⟩
  after_own := fun _ _ _ => ⟨fun h => absurd h hstatus, fun h => absurd h hcells, fun h => absurd h htemps⟩

/-- The one reply of STATUS_QUERY is latched (R214). -/
theorem exchangeEnd_statusQuery (s : State) : ExchangeEnd s .statusQuery 1 dropReply
    (fun t => { t with sessionStatus := t.reply.headD t.sessionStatus, sessionValid := true }) where
  cleared_eq := fun t => ⟨t.series, rfl⟩
  cleared_series := fun h => by simp at h
  after_eq := fun t => ⟨true, t.reply.headD t.sessionStatus, t.series, t.expIdx, [], by simp⟩
  after_own := fun t hreply hlen => by
    obtain ⟨p, hp⟩ := List.length_eq_one_iff.mp
      (Nat.le_antisymm hlen (List.length_pos_iff.mpr hreply) : t.reply.length = 1)
    exact ⟨fun _ => ⟨rfl, by simp [hp]⟩, nofun, nofun⟩

/-- A page-index log is log events. -/
theorem exists_pageLogsFrom (pages : List Payload) (first : Nat) :
    ∃ logs : List LogEvent, pageLogsFrom first pages = logs.map .log := by
  induction pages generalizing first with
  | nil => exact ⟨[], rfl⟩
  | cons p pages ih =>
    obtain ⟨logs, hlogs⟩ := ih (first + 1)
    rw [pageLogsFrom_cons, hlogs]
    split
    · exact ⟨logs, rfl⟩
    · exact ⟨_ :: logs, rfl⟩

theorem exchangeEnd_paginated {s : State} {i : Instr} {n : Byte} {w count : Nat} (hstatus : i ≠ .statusQuery)
    (hcells : i = .queryCells → w = 2 ∧ count = (sessionCells s).toNat)
    (htemps : i = .queryTemps → w = 1 ∧ count = (sessionSensors s).toNat) :
    ExchangeEnd s i n clearedPages (reassembledPages w count) where
  cleared_eq := fun _ => ⟨[], rfl⟩
  cleared_series := fun _ _ => rfl
  after_eq := fun t => by
    obtain ⟨logs, hlogs⟩ := exists_pageLogsFrom (pagesLookedAt w count t.reply) 1
    exact ⟨t.sessionValid, t.sessionStatus, _, _, logs, by rw [← hlogs, ← pageLogs_eq]; rfl⟩
  after_own := fun t _ _ => by
    refine ⟨fun h => absurd h hstatus, fun h => ?_, fun h => ?_⟩
    · obtain ⟨rfl, rfl⟩ := hcells h
      rfl
    · obtain ⟨rfl, rfl⟩ := htemps h
      rfl

/-- Each of the six operations runs its exchange and has its own end (R210). -/
theorem runsExchange_endsAs {s : State} {i : Instr} {cmd : Byte} {extra : List Byte} {n r : Byte} (hidle : Idle s)
    (h : RunsExchange s i cmd extra n r) :
    ∃ cleared after resPages u, exec i s = .next u ∧
      EndsAs u (refExchange cmd extra n r cleared after { s with resPages }) ∧ ExchangeEnd s i n cleared after := by
  obtain ⟨hbusy, -, -⟩ := hidle
  rcases h with rfl | ⟨rfl, rfl, rfl, rfl, rfl⟩ | ⟨rfl, hsession, rfl, rfl, rfl, rfl⟩ |
    ⟨rfl, hsession, rfl, rfl, rfl, rfl⟩ | ⟨rfl, rfl, rfl, rfl⟩ | ⟨rfl, rfl, rfl⟩
  · exact ⟨dropReply, id, s.resPages, _, exec_send_idle hbusy cmd n r extra,
      exchange_endsAs (finishesAs_plain (.inl rfl)) cmd extra n r s, exchangeEnd_plain nofun nofun nofun⟩
  · exact ⟨dropReply, _, s.resPages, _, exec_statusQuery_idle hbusy,
      exchange_endsAs finishesAs_statusQuery _ _ _ _ s, exchangeEnd_statusQuery s⟩
  · have hends := paginated_endsAs .cells s.params.cmd.cellVoltages s (finishesAs_queryCells (sessionCells s))
    rw [refPaginated_session hsession] at hends
    exact ⟨clearedPages, _, _, _, exec_queryCells_idle hbusy, hends,
      exchangeEnd_paginated nofun (fun _ => ⟨rfl, rfl⟩) nofun⟩
  · have hends := paginated_endsAs .temperatures s.params.cmd.temperatures s (finishesAs_queryTemps (sessionSensors s))
    rw [refPaginated_session hsession] at hends
    exact ⟨clearedPages, _, _, _, exec_queryTemps_idle hbusy, hends,
      exchangeEnd_paginated nofun nofun (fun _ => ⟨rfl, rfl⟩)⟩
  · exact ⟨dropReply, id, s.resPages, _, exec_query_idle hbusy cmd,
      exchange_endsAs (finishesAs_plain (.inr (.inl rfl))) cmd [] 1 s.retries s, exchangeEnd_plain nofun nofun nofun⟩
  · exact ⟨dropReply, id, s.resPages, _, exec_set_idle hbusy cmd extra,
      exchange_endsAs (finishesAs_plain (.inr (.inr rfl))) cmd extra 1 s.retries s, exchangeEnd_plain nofun nofun nofun⟩

/-- The state in which the attempts of an exchange that passed CHECK begin. -/
def attemptsBegin (cmd : Byte) (extra : List Byte) (n r resPages : Byte) (s : State) : State :=
  { latchedExchange cmd extra n r { s with resPages } with txbuf := requestFrame s.params s.addrVariant cmd extra }

section
variable {s t : State} {i : Instr} {cmd : Byte} {extra : List Byte} {n r resPages : Byte}
  {cleared after : State → State} (hend : ExchangeEnd s i n cleared after)
include hend

/-- A failed exchange has the outcome its events say (R159, R263). -/
theorem exchangeOutcome_failed {new : List Event}
    (h : Attempted (max 1 r.toNat) (attemptsBegin cmd extra n r resPages s) t false new) :
    ExchangeOutcome s i cmd extra n r (raise .exchangeFailed (cleared t)) := by
  obtain ⟨hdrains, hwrites, hdelays, hreads, hframes⟩ := h.events
  have hrecord : failureRecord cmd new = failureCodes t := h.failed rfl []
  have hseries := fun hi => hend.cleared_series hi t
  obtain ⟨series, hcleared⟩ := hend.cleared_eq t
  rw [hcleared] at hseries
  rw [hcleared, raise_exchangeFailed]
  exact ⟨max 1 r.toNat, new, h.history, Nat.le_max_left _ _, le_refl _, hdrains, hwrites, hdelays, hreads, hframes,
    .inl ⟨rfl, rfl, h.request.cmd, hrecord.symm, rfl, ⟨h.request.sessionValid, h.request.sessionStatus⟩, hseries⟩⟩

/-- A successful exchange has the outcome its events say (R160, R170, R210). -/
theorem exchangeOutcome_succeeded {attempts : Nat} {new : List Event} (hpos : 1 ≤ attempts)
    (hle : attempts ≤ max 1 r.toNat) (h : Attempted attempts (attemptsBegin cmd extra n r resPages s) t true new) :
    ExchangeOutcome s i cmd extra n r (complete (after t)) := by
  obtain ⟨hcollected, hreply, hlength⟩ := h.succeeded rfl
  have hown := hend.after_own t hreply hlength
  obtain ⟨sessionValid, sessionStatus, series, expIdx, logs, hafter⟩ := hend.after_eq t
  obtain ⟨hdrains, hwrites, hdelays, hreads, hframes⟩ :=
    h.events.append (exchangeEvents_logs (requestFrame s.params s.addrVariant cmd extra) logs)
  have hnew : collected cmd (new ++ logs.map .log) = t.reply := by rw [collected_logs]; exact hcollected []
  rw [hafter] at hown
  rw [hafter, complete_eq]
  exact ⟨attempts, new ++ logs.map .log, (congrArg (· ++ logs.map .log) h.history).trans (List.append_assoc _ _ _), hpos,
    hle, hdrains, hwrites, hdelays, hreads, hframes,
    .inr ⟨⟨rfl, rfl, rfl, rfl, rfl⟩, hnew.symm, List.length_pos_iff.mpr hreply, hlength, hown⟩⟩

/-- An exchange that passed CHECK and ended has the outcome its events say. -/
theorem exchangeOutcome_of_endsAs {u : State} (hlink : s.link = true) (hextra : extra.length ≤ 8)
    (h : EndsAs u (refExchange cmd extra n r cleared after { s with resPages })) (hbusy : u.engBusy = false) :
    ExchangeOutcome s i cmd extra n r u := by
  have href : refExchange cmd extra n r cleared after { s with resPages } =
      (refLoop ((clampRetries r).toNat - 1) (attemptsBegin cmd extra n r resPages s)).map fun x =>
        if x.2 then complete (after x.1) else raise .exchangeFailed (cleared x.1) :=
    refExchange_ok n r cleared after hlink (codecEncode_ok hextra)
  have hcount : (clampRetries r).toNat - 1 + 1 = max 1 r.toNat := by rw [clampRetries_toNat]; omega
  rw [href] at h
  cases hloop : refLoop ((clampRetries r).toNat - 1) (attemptsBegin cmd extra n r resPages s) with
  | none =>
    rw [hloop] at h
    exact absurd (hbusy.symm.trans h) nofun
  | some x =>
    obtain ⟨t, ok⟩ := x
    obtain ⟨attempts, new, hpos, hle, hall, hattempted⟩ := refLoop_attempted _ hloop
    rw [hloop] at h
    have heq : hideCounters u = hideCounters _ := h
    rw [hcount] at hle hall
    show ExchangeOutcome s i cmd extra n r (hideCounters u)
    rw [heq]
    cases ok with
    | true =>
      show ExchangeOutcome s i cmd extra n r (complete (after t))
      exact exchangeOutcome_succeeded hend hpos hle hattempted
    | false =>
      obtain rfl := hall rfl
      show ExchangeOutcome s i cmd extra n r (raise .exchangeFailed (cleared t))
      exact exchangeOutcome_failed hend hattempted

end

/-- Settles O36: each of the six runs an exchange of the pseudo-code, whose attempts are followed event by event. -/
theorem eventCountsOfAnExchange : Obligations.EventCountsOfAnExchange := by
  intro s t i cmd extra n r hidle hlink hextra hruns hexec hbusy
  obtain ⟨cleared, after, resPages, u, hu, hends, hend⟩ := runsExchange_endsAs hidle hruns
  cases hu.symm.trans hexec
  exact exchangeOutcome_of_endsAs hend hlink hextra hends hbusy

end Sys2Proof.Machine

/-! PROOFS. The session and its operations (spec/43_session_queries.md R211 to R213, R215, R221): which transitions write the
session registers, what OPEN, CLOSE and CFG_WRITE leave, and the operations that end at once where there is no session
(spec/60_exceptions.md R264). -/

namespace Sys2Proof.Machine

/-! ### Which transitions write the session -/

theorem SameSession.refl (s : State) : SameSession s s := ⟨rfl, rfl⟩

theorem SameSession.trans {s t u : State} (h : SameSession s t) (h' : SameSession t u) : SameSession s u :=
  ⟨h'.1.trans h.1, h'.2.trans h.2⟩

theorem raise_sameSession (e : Err) (s : State) : SameSession s (raise e s) := by simp [SameSession]

theorem endCollection_session (s : State) :
    SameSession s (endCollection s) ∧ (endCollection s).running = s.running := by
  rcases endCollection_cases s with ⟨-, heq⟩ | ⟨-, heq⟩ <;> rw [heq] <;> exact ⟨⟨rfl, rfl⟩, rfl⟩

/-- The states whose next transition writes the session registers: STATUS_QUERY's successful FINISH (R214), and the answer
to the call that closes the link (R211, R212). -/
def SessionDue (s : State) : Prop :=
  (s.fsm = .finish none ∧ s.running = some .statusQuery) ∨
  (s.fsm = .idle ∧ (s.running = some .openClosing ∨ s.running = some .closing))

/-- Any other transition leaves the session as it was, and the operation goes on or ends. -/
theorem Transition.session_cases {s t : State} (h : Transition s t) :
    (SameSession s t ∧ (t.running = s.running ∨ t.running = none)) ∨ SessionDue s := by
  cases h with
  | notSent => exact .inl ⟨⟨rfl, rfl⟩, .inl rfl⟩
  | checked => exact .inl ⟨⟨rfl, rfl⟩, .inl rfl⟩
  | drained => exact .inl ⟨⟨rfl, rfl⟩, .inl rfl⟩
  | written => exact .inl ⟨⟨rfl, rfl⟩, .inl rfl⟩
  | writeFailed => exact .inl ⟨⟨rfl, rfl⟩, .inl rfl⟩
  | slotsDone => exact .inl ((endCollection_session s).imp_right .inl)
  | readEnded => exact .inl ((endCollection_session _).imp_right .inl)
  | slotFilled => exact .inl ⟨⟨rfl, rfl⟩, .inl rfl⟩
  | slotWasted => exact .inl ⟨⟨rfl, rfl⟩, .inl rfl⟩
  | backedOff => exact .inl ⟨⟨rfl, rfl⟩, .inl rfl⟩
  | failed => exact .inl ⟨raise_sameSession _ _, .inr (raise_running _ _)⟩
  | ended => exact .inl ⟨⟨rfl, rfl⟩, .inr rfl⟩
  | latched _ hf hrun => exact .inr (.inl ⟨hf, hrun⟩)
  | reassembled => exact .inl ⟨⟨rfl, rfl⟩, .inr rfl⟩
  | reopening _ _ hf hrun => exact .inr (.inr ⟨hf, .inl hrun⟩)
  | opened => exact .inl ⟨⟨rfl, rfl⟩, .inr rfl⟩
  | openFailed => exact .inl ⟨raise_sameSession _ _, .inr (raise_running _ _)⟩
  | closed _ _ hf hrun => exact .inr (.inr ⟨hf, .inr hrun⟩)
  | closeFailed _ _ hf hrun => exact .inr (.inr ⟨hf, .inr hrun⟩)

/-- The runs of the three operations that write the session (R215). -/
def WritesSession (op : Option Running) : Prop :=
  op = some .statusQuery ∨ op = some .openClosing ∨ op = some .openOpening ∨ op = some .closing

theorem SessionDue.writesSession {s : State} (h : SessionDue s) : WritesSession s.running := by
  rcases h with ⟨-, hrun⟩ | ⟨-, hrun | hrun⟩ <;> simp [WritesSession, hrun]

/-- A run of any other operation leaves the session as it was. -/
theorem settle_sameSession {s : State} (hop : ¬ WritesSession s.running) : SameSession s (settle s) := by
  refine (settle_keeps (P := fun u => SameSession s u ∧ ¬ WritesSession u.running) ?_ ⟨SameSession.refl s, hop⟩).1
  rintro u v ⟨hsame, hother⟩ htrans
  rcases htrans.session_cases with ⟨hkept, hrun | hrun⟩ | hdue
  · exact ⟨hsame.trans hkept, by rwa [hrun]⟩
  · exact ⟨hsame.trans hkept, by simp [WritesSession, hrun]⟩
  · exact absurd hdue.writesSession hother

theorem exchange_sameSession {op : Running} (hop : ¬ WritesSession (some op)) (cmd : Byte) (extra : List Byte)
    (n r : Byte) (s : State) : SameSession s (settle (startExchange op cmd extra n r s)) :=
  SameSession.trans ⟨rfl, rfl⟩ (settle_sameSession (s := startExchange op cmd extra n r s) hop)

/-! ### The instructions that leave the session -/

theorem accept_sameSession {i : Instr} {body : State → State} {s t : State} (h : accept i body s = .next t)
    (hbody : ∀ u, SameSession u (body u)) : SameSession s t := by
  have hview := accept_keeps (view := fun u => (u.sessionValid, u.sessionStatus)) h (fun _ _ => rfl) (fun _ => rfl)
    fun u => Prod.ext (hbody u).1 (hbody u).2
  exact Prod.mk.inj hview

theorem execCfgWrite_sameSession {variant retries : Byte} {s t : State}
    (h : execCfgWrite variant retries s = .next t) : SameSession s t := by
  refine accept_sameSession h fun u => ?_
  split
  · exact raise_sameSession _ u
  · exact ⟨rfl, rfl⟩

theorem execChecksum_sameSession {bytes : List Byte} {s t : State} (h : execChecksum bytes s = .next t) :
    SameSession s t :=
  accept_sameSession h fun _ => ⟨rfl, rfl⟩

theorem execEncode_sameSession {cmd : Byte} {extra : List Byte} {s t : State}
    (h : execEncode cmd extra s = .next t) : SameSession s t := by
  refine accept_sameSession h fun u => ?_
  split
  · exact ⟨rfl, rfl⟩
  · exact raise_sameSession _ u

theorem execDecode_sameSession {expCmd : Byte} {frame : List Byte} {s t : State}
    (h : execDecode expCmd frame s = .next t) : SameSession s t := by
  refine accept_sameSession h fun u => ?_
  split
  · exact ⟨rfl, rfl⟩
  · exact raise_sameSession _ u

theorem execSend_sameSession {cmd n r : Byte} {extra : List Byte} {s t : State}
    (h : execSend cmd n r extra s = .next t) : SameSession s t :=
  accept_sameSession h fun u => exchange_sameSession (by simp [WritesSession]) cmd extra n r u

theorem execReassemble_sameSession {w count : Byte} {s t : State} (h : execReassemble w count s = .next t) :
    SameSession s t := by
  refine accept_sameSession h fun u => ?_
  split
  · exact ⟨rfl, rfl⟩
  · exact raise_sameSession _ (dropSeries u)

theorem execPlanPages_sameSession {kind : Byte} {s t : State} (h : execPlanPages kind s = .next t) :
    SameSession s t := by
  refine accept_sameSession h fun u => ?_
  split
  · exact raise_sameSession _ u
  · split
    · exact ⟨rfl, rfl⟩
    · exact raise_sameSession _ u

theorem execDecodeBalancing_sameSession {p : Payload} {s t : State} (h : execDecodeBalancing p s = .next t) :
    SameSession s t := by
  refine accept_sameSession h fun u => ?_
  split
  · split
    · exact ⟨rfl, rfl⟩
    · exact raise_sameSession _ (dropBal u)
  · exact raise_sameSession _ (dropBal u)

theorem paginated_sameSession {op : Byte → Running} {count : Byte} (hop : ¬ WritesSession (some (op count)))
    (kind : PageKind) (cmd : Byte) (s : State) : SameSession s (paginated kind op cmd count s) := by
  unfold paginated
  split
  · exact exchange_sameSession hop cmd [] _ s.retries { s with resPages := _ }
  · exact raise_sameSession _ (dropSeries (dropReply s))

theorem execQueryCells_sameSession {s t : State} (h : execQueryCells s = .next t) : SameSession s t :=
  accept_sameSession h fun u => paginated_sameSession (by simp [WritesSession]) _ _ u

theorem execQueryTemps_sameSession {s t : State} (h : execQueryTemps s = .next t) : SameSession s t :=
  accept_sameSession h fun u => paginated_sameSession (by simp [WritesSession]) _ _ u

theorem execQuery_sameSession {cmd : Byte} {s t : State} (h : execQuery cmd s = .next t) : SameSession s t :=
  accept_sameSession h fun u => exchange_sameSession (by simp [WritesSession]) cmd [] 1 u.retries u

theorem execSet_sameSession {cmd : Byte} {extra : List Byte} {s t : State} (h : execSet cmd extra s = .next t) :
    SameSession s t :=
  accept_sameSession h fun u => exchange_sameSession (by simp [WritesSession]) cmd extra 1 u.retries u

theorem execDecodeFaults_sameSession {p : Payload} {s t : State} (h : execDecodeFaults p s = .next t) :
    SameSession s t :=
  accept_sameSession h fun _ => ⟨rfl, rfl⟩

/-- A frame fills its slot, whichever operation waits for it (R155). -/
theorem receiveFrame_sameSession {bytes : List Byte} {s t : State} (h : receiveFrame bytes s = .next t) :
    SameSession s t := by
  rcases receiveFrame_cases bytes s with ⟨hwait, hnext⟩ | ⟨-, hnext⟩
  · obtain ⟨hfsm, hslots⟩ : s.fsm = .collect ∧ slotsTaken s = false := by simp_all [slotWaiting]
    cases hnext.symm.trans h
    rcases (slotStep_transition ⟨0, bytes, false⟩ s.answers hfsm hslots).session_cases with ⟨hkept, -⟩ | hdue
    · exact hkept
    · simp [SessionDue, hfsm] at hdue
  · cases hnext.symm.trans h
    exact SameSession.refl s

/-- No instruction but the three writes the session (R215, R221). -/
theorem exec_sameSession {i : Instr} {s t : State} (hstatus : i ≠ .statusQuery) (hopen : i ≠ .openLink)
    (hclose : i ≠ .closeLink) (h : exec i s = .next t) : SameSession s t := by
  cases hi : i.isHostOp with
  | false =>
    obtain ⟨c, start, addr, p, ck, rfl⟩ := exists_wireInstr hi
    rw [exec_wireInstr] at h
    exact receiveFrame_sameSession h
  | true =>
    cases i with
    | openLink => exact absurd rfl hopen
    | closeLink => exact absurd rfl hclose
    | statusQuery => exact absurd rfl hstatus
    | cfgWrite variant retries => exact execCfgWrite_sameSession h
    | checksum bytes => exact execChecksum_sameSession h
    | encode cmd extra => exact execEncode_sameSession h
    | decode expCmd frame => exact execDecode_sameSession h
    | send cmd n r extra => exact execSend_sameSession h
    | reassemble w count => exact execReassemble_sameSession h
    | planPages kind => exact execPlanPages_sameSession h
    | queryCells => exact execQueryCells_sameSession h
    | queryTemps => exact execQueryTemps_sameSession h
    | query cmd => exact execQuery_sameSession h
    | set cmd extra => exact execSet_sameSession h
    | decodeBalancing p => exact execDecodeBalancing_sameSession h
    | decodeFaults p => exact execDecodeFaults_sameSession h
    | _ => cases hi

theorem advance_changes_session {s t : State} (h : advance s = some t) (hchange : ¬ SameSession s t) :
    WritesSession s.running := by
  rcases (advance_transition h).session_cases with ⟨hkept, -⟩ | hdue
  · exact absurd hkept hchange
  · exact hdue.writesSession

/-- A step without reset that changes the session runs the word of one of the three, or is a transition of one of the three
that was running (R215, R221). -/
theorem step_changes_session {s t : State} (hreset : s.resetLine = false) (h : step s = .next t)
    (hchange : ¬ SameSession s t) :
    (s.engBusy = false ∧ ∃ word words i, s.inbox = word :: words ∧ decodeOp word = .op i ∧
      (i = .statusQuery ∨ i = .openLink ∨ i = .closeLink)) ∨
    (s.engBusy = true ∧ WritesSession s.running) := by
  rcases step_cases h with ⟨hr, -⟩ | ⟨-, hbusy, i, u, hslot, hframe⟩ | ⟨-, hbusy, -, hadv⟩ | ⟨-, -, -, -, rfl⟩ |
    ⟨-, -, -, rfl⟩ | ⟨-, hbusy, word, words, hinbox, ⟨i, hdec, hexec⟩ | ⟨opc, -, rfl⟩⟩
  · exact absurd (hr.symm.trans hreset) nofun
  · exact .inr ⟨hbusy, advance_changes_session (slotFrame_exec_advance hslot hframe) hchange⟩
  · exact .inr ⟨hbusy, advance_changes_session hadv hchange⟩
  · exact absurd (SameSession.refl _) hchange
  · exact absurd (SameSession.refl _) hchange
  · refine .inl ⟨hbusy, word, words, i, hinbox, hdec, ?_⟩
    by_contra hnot
    obtain ⟨hstatus, hopen, hclose⟩ := by simpa only [not_or] using hnot
    exact hchange (exec_sameSession (s := { s with inbox := words }) hstatus hopen hclose hexec)
  · exact absurd (raise_sameSession .illegalOperation { s with inbox := words }) hchange

/-- Settles O48: a transition writes the session only at the end of a STATUS_QUERY or the closing of the link, and none of
the other operations' runs gets there. -/
theorem onlyThreeOperationsWriteTheSession : Obligations.OnlyThreeOperationsWriteTheSession :=
  ⟨fun _ _ _ _ hstatus hopen hclose h => exec_sameSession hstatus hopen hclose h,
    fun _ _ hreset _ h hchange => step_changes_session hreset h hchange⟩

/-! ### The answers to the link operations' calls (R211, R212) -/

/-- The answer to OPEN's open call ends the operation, with the link as the answer says. -/
theorem openOpened_eq {s : State} (hlink : s.link = false) (a : Answer) : openOpened a s = { s with
    link := !a.err
    history := s.history ++ [.openLink s.params.portId ⟨9600, 8, .none, 1, s.params.readTimeoutMs⟩ a.err]
    engErr := if a.err then 0x01 else 0
    engErrCmd := 0, engCause := 0, engDetail := 0, engWritten := 0
    engBusy := false, fsm := .idle, running := none } := by
  unfold openOpened
  cases a.err with
  | false => rfl
  | true => simp [raise_eq, emit, hlink, Params.line, errCode]

/-- The answer to CLOSE's call ends the operation with the link closed and the session cleared. -/
theorem closeClosed_eq (a : Answer) (s : State) : closeClosed a s = { s with
    link := false, sessionValid := false, sessionStatus := Payload.zero
    history := s.history ++ [.closeLink a.err]
    engErr := if a.err then 0x01 else 0
    engErrCmd := 0, engCause := 0, engDetail := 0, engWritten := 0
    engBusy := false, fsm := .idle, running := none } := by
  unfold closeClosed
  cases a.err with
  | false => rfl
  | true => simp [raise_eq, emit, clearSession, errCode]

section
variable {s : State} {a : Answer} {answers : List Answer} (hfsm : s.fsm = .idle) (hans : s.answers = a :: answers)
include hfsm hans

/-- OPEN waiting for its open call takes the answer and ends (R211). -/
theorem settle_openOpening (hrun : s.running = some .openOpening) (hlink : s.link = false) : settle s = { s with
    link := !a.err, answers := answers
    history := s.history ++ [.openLink s.params.portId ⟨9600, 8, .none, 1, s.params.readTimeoutMs⟩ a.err]
    engErr := if a.err then 0x01 else 0
    engErrCmd := 0, engCause := 0, engDetail := 0, engWritten := 0
    engBusy := false, fsm := .idle, running := none } := by
  have hadv : advance s = some (openOpened a { s with answers }) := by simp [advance, hfsm, hrun, withAnswer_cons hans]
  rw [settle_advance hadv, openOpened_eq (s := { s with answers }) hlink]
  exact settle_rest (advance_idle rfl rfl)

/-- OPEN waiting for its close call takes the answer and goes on, whatever the answer (R211). -/
theorem settle_openClosing (hrun : s.running = some .openClosing) :
    settle s = settle (openClosed a { s with answers }) :=
  settle_advance (by simp [advance, hfsm, hrun, withAnswer_cons hans])

/-- CLOSE waiting for its call takes the answer and ends (R212). -/
theorem settle_closing (hrun : s.running = some .closing) : settle s = { s with
    link := false, sessionValid := false, sessionStatus := Payload.zero, answers := answers
    history := s.history ++ [.closeLink a.err]
    engErr := if a.err then 0x01 else 0
    engErrCmd := 0, engCause := 0, engDetail := 0, engWritten := 0
    engBusy := false, fsm := .idle, running := none } := by
  have hadv : advance s = some (closeClosed a { s with answers }) := by simp [advance, hfsm, hrun, withAnswer_cons hans]
  rw [settle_advance hadv, closeClosed_eq]
  exact settle_rest (advance_idle rfl rfl)

end

/-! ### OPEN, CLOSE and CFG_WRITE -/

section
variable {s : State} (h : Idle s)
include h

theorem exec_openLink_closed {a : Answer} {answers : List Answer} (hlink : s.link = false)
    (hans : s.answers = a :: answers) : exec .openLink s = .next { s with
      link := !a.err, sessionValid := false, sessionStatus := Payload.zero, answers := answers
      history := s.history ++ [.openLink s.params.portId ⟨9600, 8, .none, 1, s.params.readTimeoutMs⟩ a.err]
      engErr := if a.err then 0x01 else 0
      engErrCmd := 0, engCause := 0, engDetail := 0, engWritten := 0 } := by
  obtain ⟨hbusy, hfsm, hrun⟩ := h
  show execOpen s = _
  rw [execOpen, accept_idle hbusy, if_neg (by simp [hlink])]
  have hopened := settle_openOpening (s := { clearSession { s with engBusy := true } with running := some .openOpening })
    hfsm hans rfl hlink
  refine congrArg _ (hopened.trans ?_)
  simp [hbusy, hfsm, hrun]

theorem exec_openLink_open {c a : Answer} {answers : List Answer} (hlink : s.link = true)
    (hans : s.answers = c :: a :: answers) : exec .openLink s = .next { s with
      link := !a.err, sessionValid := false, sessionStatus := Payload.zero, answers := answers
      history := s.history ++
        [.closeLink c.err, .openLink s.params.portId ⟨9600, 8, .none, 1, s.params.readTimeoutMs⟩ a.err]
      engErr := if a.err then 0x01 else 0
      engErrCmd := 0, engCause := 0, engDetail := 0, engWritten := 0 } := by
  obtain ⟨hbusy, hfsm, hrun⟩ := h
  show execOpen s = _
  rw [execOpen, accept_idle hbusy, if_pos (by exact hlink)]
  have hclosed := settle_openClosing (s := { s with engBusy := true, running := some .openClosing }) hfsm hans rfl
  have hopened := settle_openOpening (s := openClosed c
    { s with engBusy := true, running := some .openClosing, answers := a :: answers }) hfsm rfl rfl rfl
  refine congrArg _ ((hclosed.trans hopened).trans ?_)
  simp [openClosed, hbusy, hfsm, hrun]

theorem exec_closeLink_open {a : Answer} {answers : List Answer} (hlink : s.link = true)
    (hans : s.answers = a :: answers) : exec .closeLink s = .next { s with
      link := false, sessionValid := false, sessionStatus := Payload.zero, answers := answers
      history := s.history ++ [.closeLink a.err]
      engErr := if a.err then 0x01 else 0
      engErrCmd := 0, engCause := 0, engDetail := 0, engWritten := 0 } := by
  obtain ⟨hbusy, hfsm, hrun⟩ := h
  show execClose s = _
  rw [execClose, accept_idle hbusy, if_pos (by exact hlink)]
  have hclosed := settle_closing (s := { s with engBusy := true, running := some .closing }) hfsm hans rfl
  refine congrArg _ (hclosed.trans ?_)
  simp [hbusy, hfsm, hrun]

theorem exec_closeLink_closed (hlink : s.link = false) : exec .closeLink s = .next { s with
    sessionValid := false, sessionStatus := Payload.zero
    engErr := 0, engErrCmd := 0, engCause := 0, engDetail := 0, engWritten := 0 } := by
  show execClose s = _
  rw [execClose, accept_idle h.1, if_neg (by simp [hlink])]
  exact congrArg _ (complete_accepted (s := clearSession s) h)

theorem exec_cfgWrite_some {variant : Byte} {v : Variant} (hv : variantOf? variant = some v) (retries : Byte) :
    exec (.cfgWrite variant retries) s = .next { s with
      addrVariant := v, retries := clampRetries retries
      engErr := 0, engErrCmd := 0, engCause := 0, engDetail := 0, engWritten := 0 } := by
  show execCfgWrite variant retries s = _
  rw [execCfgWrite, accept_idle h.1, hv]
  exact congrArg _ (complete_accepted (s := { s with addrVariant := v, retries := clampRetries retries }) h)

theorem exec_cfgWrite_none {variant : Byte} (hv : variantOf? variant = none) (retries : Byte) :
    exec (.cfgWrite variant retries) s = .next { s with
      engErr := 0x0A, engErrCmd := 0, engCause := 0, engDetail := 0, engWritten := 0 } := by
  show execCfgWrite variant retries s = _
  rw [execCfgWrite, accept_idle h.1, hv]
  exact congrArg _ (raise_accepted h (by decide))

end

theorem variantOf?_of_le_one {b : Byte} (h : b ≤ 1) : variantOf? b = some (if b = 0 then .wired else .wireless) := by
  have hcases : b = 0 ∨ b = 1 := by bv_omega
  rcases hcases with rfl | rfl <;> rfl

theorem variantOf?_of_one_lt {b : Byte} (h : 1 < b) : variantOf? b = none := by
  rw [variantOf?, if_neg (by bv_omega), if_neg (by bv_omega)]

/-- Settles O26: the run is one answer long on a closed link, two on an open one. -/
theorem openStartsAFreshSession : Obligations.OpenStartsAFreshSession := fun _ _ _ h =>
  ⟨fun hlink hans => exec_openLink_closed h hlink hans, fun _ hlink hans => exec_openLink_open h hlink hans⟩

/-- Settles O27: the run is one answer long on an open link, and there is none on a closed one. -/
theorem closeTearsTheLinkDown : Obligations.CloseTearsTheLinkDown := fun _ h =>
  ⟨fun _ _ hlink hans => exec_closeLink_open h hlink hans, fun hlink => exec_closeLink_closed h hlink⟩

/-- Settles O28: the operand names a variant exactly where it is 0 or 1. -/
theorem cfgWriteWritesBothFieldsOrNeither : Obligations.CfgWriteWritesBothFieldsOrNeither :=
  fun _ _ retries h =>
    ⟨fun hle => exec_cfgWrite_some h (variantOf?_of_le_one hle) retries,
      fun hlt => exec_cfgWrite_none h (variantOf?_of_one_lt hlt) retries⟩

/-! ### Operations that need a session (R264) -/

section
variable {s : State} (h : Idle s) (hsession : s.sessionValid = false)
include h hsession

theorem exec_planPages_no_session {kind : Byte} (hkind : kind ≤ 1) : exec (.planPages kind) s = .next { s with
    engErr := 0x06, engErrCmd := 0, engCause := 0, engDetail := 0, engWritten := 0 } := by
  show execPlanPages kind s = _
  rw [execPlanPages, accept_idle h.1, pageKind?_of_le_one hkind]
  dsimp only
  rw [if_neg (by simp [hsession])]
  exact congrArg _ (raise_accepted (e := .prerequisiteMissing) h (by decide))

theorem exec_decodeBalancing_no_session (p : Payload) : exec (.decodeBalancing p) s = .next { s with
    bal := [], engErr := 0x06, engErrCmd := 0, engCause := 0, engDetail := 0, engWritten := 0 } := by
  show execDecodeBalancing p s = _
  rw [execDecodeBalancing, accept_idle h.1, if_neg (by simp [hsession])]
  exact congrArg _ (raise_accepted (s := dropBal s) (e := .prerequisiteMissing) h (by decide))

/-- Both paginated queries end before they plan a page (R225). -/
theorem paginated_no_session (kind : PageKind) (op : Byte → Running) (cmd count : Byte) :
    paginated kind op cmd count { s with engBusy := true } = { s with
      reply := [], series := []
      engErr := 0x06, engErrCmd := 0, engCause := 0, engDetail := 0, engWritten := 0 } := by
  rw [paginated, if_neg (by simp [hsession])]
  exact raise_accepted (s := dropSeries (dropReply s)) (e := .prerequisiteMissing) h (by decide)

end

/-- Settles O46: each of the four looks at SESSION.VALID first and raises PrerequisiteMissing. -/
theorem sessionOperationsNeedASession : Obligations.SessionOperationsNeedASession := by
  intro s h hsession
  refine ⟨fun kind hkind => exec_planPages_no_session h hsession hkind, exec_decodeBalancing_no_session h hsession, ?_⟩
  rintro i (rfl | rfl)
  · rw [exec_queryCells_idle h.1, paginated_no_session h hsession]
  · rw [exec_queryTemps_idle h.1, paginated_no_session h hsession]

end Sys2Proof.Machine

/-! PROOFS. The bitmap field decoders (spec/44_field_decoders.md R240 to R245): the bits of a payload read big-endian,
the padded width that bounds DECODE_BALANCING, and the list DECODE_FAULTS makes of a payload's set bits. -/

namespace Sys2Proof.Machine

/-! ### The bits of a big-endian number (R5, R85) -/

theorem be_concat (bs : List Byte) (b : Byte) : be (bs ++ [b]) = 2 ^ 8 * be bs + b.toNat := by
  simp [be, Nat.mul_comm]

/-- Of bytes listed from the least significant, byte `i` holds the bits from `8 * i` on. -/
theorem testBit_be_reverse {b : Nat} (hb : b < 8) : ∀ (bs : List Byte) (i : Nat),
    (be bs.reverse).testBit (8 * i + b) = (bs.getD i 0).getLsbD b
  | [], i => by simp [be]
  | x :: bs, 0 => by
    rw [List.reverse_cons, be_concat, Nat.testBit_two_pow_mul_add _ x.isLt, if_pos (by omega), Nat.mul_zero,
      Nat.zero_add, BitVec.testBit_toNat, List.getD_cons_zero]
  | x :: bs, i + 1 => by
    have hsub : 8 * (i + 1) + b - 8 = 8 * i + b := by omega
    rw [List.reverse_cons, be_concat, Nat.testBit_two_pow_mul_add _ x.isLt, if_neg (by omega), hsub,
      testBit_be_reverse hb bs i, List.getD_cons_succ]

/-- Where bit `b` of payload byte `j` stands in the payload read big-endian. -/
def bmapIndex (x : Fin 8 × Fin 8) : Nat := 8 * (7 - x.1.val) + x.2.val

theorem testBit_bmap (p : Payload) (x : Fin 8 × Fin 8) : (bmap p).testBit (bmapIndex x) = faultBit p x.1 x.2 := by
  obtain ⟨j, b⟩ := x
  have hbyte : p.toList.reverse.getD (7 - j.val) 0 = payloadByte p j := by
    have hidx : 8 - 1 - (7 - j.val) = j.val := by omega
    simp only [payloadByte, List.getD_eq_getElem?_getD]
    rw [List.getElem?_reverse (by rw [Payload.toList_length]; omega), Payload.toList_length, hidx]
  calc (bmap p).testBit (8 * (7 - j.val) + b.val)
      = (be p.toList.reverse.reverse).testBit (8 * (7 - j.val) + b.val) := by rw [List.reverse_reverse, bmap]
    _ = (p.toList.reverse.getD (7 - j.val) 0).getLsbD b.val := testBit_be_reverse b.isLt _ _
    _ = faultBit p j b := by rw [hbyte, faultBit]

/-! ### DECODE_BALANCING (R240 to R242) -/

/-- A number is longer than `k` bits where its leading bit is bit `k` or one above. -/
theorem lt_bitLength_iff {k v : Nat} : k < bitLength v ↔ 2 ^ k ≤ v := by
  unfold bitLength
  split
  · next hzero =>
    subst hzero
    exact iff_of_false (Nat.not_lt_zero k) (Nat.not_le.mpr (Nat.two_pow_pos k))
  · next hne => rw [Nat.lt_succ_iff, Nat.le_log2 hne]

/-- The cell counts within the padded width. -/
theorem le_balWidth_iff {p : Payload} {cells : Nat} :
    cells ≤ balWidth p ↔ cells ≤ 48 ∨ 2 ^ (cells - 1) ≤ bmap p := by
  rw [balWidth, le_max_iff, ← lt_bitLength_iff, Config.balMinWidth]
  omega

theorem balancing_of_le {p : Payload} {cells : Nat} (hcells : cells ≤ balWidth p) :
    balancing p cells = .ok ((List.range cells).map (bmap p).testBit) := by
  rw [balancing, if_neg (by omega)]

theorem balancing_of_gt {p : Payload} {cells : Nat} (hcells : balWidth p < cells) :
    balancing p cells = .error .bitIndexRange := by
  rw [balancing, if_pos hcells]

/-- Accepting an operation leaves the session's cell count. -/
theorem sessionCells_accepted (s : State) : sessionCells { s with engBusy := true } = sessionCells s := rfl

section
variable {s : State} (h : Idle s) (hsession : s.sessionValid = true) {p : Payload}
include h hsession

theorem exec_decodeBalancing_ok {flags : List Bool} (hbal : balancing p (sessionCells s).toNat = .ok flags) :
    exec (.decodeBalancing p) s = .next { s with
      bal := flags, engErr := 0, engErrCmd := 0, engCause := 0, engDetail := 0, engWritten := 0 } := by
  show execDecodeBalancing p s = _
  rw [execDecodeBalancing, accept_idle h.1, if_pos hsession, sessionCells_accepted, hbal]
  exact congrArg _ (complete_accepted (s := { s with bal := flags }) h)

theorem exec_decodeBalancing_error {e : Err} (he : e ≠ .exchangeFailed)
    (hbal : balancing p (sessionCells s).toNat = .error e) :
    exec (.decodeBalancing p) s = .next { s with
      bal := [], engErr := errCode e, engErrCmd := 0, engCause := 0, engDetail := 0, engWritten := 0 } := by
  show execDecodeBalancing p s = _
  rw [execDecodeBalancing, accept_idle h.1, if_pos hsession, sessionCells_accepted, hbal]
  exact congrArg _ (raise_accepted (s := dropBal s) h he)

end

/-- Settles O49: such a count is within the padded width, and Balancing lists the payload's low bits. -/
theorem decodeBalancingReadsTheCellsBits : Obligations.DecodeBalancingReadsTheCellsBits := by
  intro s p h hsession hcells
  refine ⟨_, exec_decodeBalancing_ok h hsession (balancing_of_le (le_balWidth_iff.mpr hcells)), by simp, ?_⟩
  intro i hlow hhigh
  have hlt : i - 1 < (sessionCells s).toNat := by omega
  rw [List.getElem?_map, List.getElem?_range hlt, Option.map_some, bmap]

/-- Settles O50: such a count is beyond the padded width. -/
theorem decodeBalancingBeyondTheWidth : Obligations.DecodeBalancingBeyondTheWidth := by
  intro s p h hsession h48 hlen
  have hbeyond : ¬ (sessionCells s).toNat ≤ balWidth p := fun hle =>
    (le_balWidth_iff.mp hle).elim (Nat.not_le.mpr h48) (Nat.not_le.mpr hlen)
  exact exec_decodeBalancing_error h hsession (by decide) (balancing_of_gt (Nat.not_le.mp hbeyond))

/-! ### DECODE_FAULTS (R243 to R245) -/

/-- The byte and bit indices of a payload, by byte and then by bit. -/
def bitPositions : List (Fin 8 × Fin 8) := indices8.flatMap fun j => indices8.map fun b => (j, b)

theorem mem_bitPositions (x : Fin 8 × Fin 8) : x ∈ bitPositions := by
  have hmem : ∀ j : Fin 8, j ∈ indices8 := by decide
  exact List.mem_flatMap.mpr ⟨x.1, hmem _, List.mem_map_of_mem (hmem _)⟩

theorem bitPositions_ascending :
    bitPositions.Pairwise fun x y => 8 * x.1.val + x.2.val < 8 * y.1.val + y.2.val := by
  have hrange : bitPositions.map (fun x => 8 * x.1.val + x.2.val) = List.range 64 := by decide
  rw [← List.pairwise_map (f := fun x : Fin 8 × Fin 8 => 8 * x.1.val + x.2.val), hrange]
  exact List.pairwise_lt_range

/-- The bytes taken last first, the positions are those of the big-endian number from bit 0 on. -/
theorem bitPositions_map_bmapIndex_perm : (bitPositions.map bmapIndex).Perm (List.range 64) := by
  have hrange : (indices8.reverse.flatMap fun j => indices8.map fun b => (j, b)).map bmapIndex = List.range 64 := by
    decide
  rw [← hrange]
  exact ((List.reverse_perm indices8).symm.flatMap_right _).map _

/-- The positions of the set bits, in order. -/
def setBits (p : Payload) : List (Fin 8 × Fin 8) := bitPositions.filter fun x => faultBit p x.1 x.2

/-- Faults gives each set bit its entry. -/
theorem faults_eq_map_setBits (table : List FaultRow) (p : Payload) :
    faults table p = (setBits p).map fun x => faultEntry table x.1 x.2 := by
  simp only [faults, setBits, bitPositions, List.filter_flatMap, List.map_flatMap, List.filter_map, List.map_map,
    Function.comp_def]

theorem mem_faults_iff {table : List FaultRow} {p : Payload} {e : FaultEntry} :
    e ∈ faults table p ↔ ∃ j b, faultBit p j b = true ∧ faultEntry table j b = e := by
  simp [faults_eq_map_setBits, setBits, mem_bitPositions]

theorem exists_mem_faults_iff {table : List FaultRow} {p : Payload} {j b : Fin 8} :
    (∃ e ∈ faults table p, e.byte = j ∧ e.bit = b) ↔ faultBit p j b = true := by
  constructor
  · rintro ⟨e, he, rfl, rfl⟩
    obtain ⟨j, b, hset, rfl⟩ := mem_faults_iff.mp he
    exact hset
  · exact fun hset => ⟨faultEntry table j b, mem_faults_iff.mpr ⟨j, b, hset, rfl⟩, rfl, rfl⟩

theorem faults_ascending (table : List FaultRow) (p : Payload) :
    (faults table p).Pairwise fun x y => 8 * x.byte.val + x.bit.val < 8 * y.byte.val + y.bit.val := by
  rw [faults_eq_map_setBits, List.pairwise_map]
  exact bitPositions_ascending.filter _

/-- As many entries as the payload read big-endian has set bits (R244). -/
theorem faults_length (table : List FaultRow) (p : Payload) :
    (faults table p).length = (List.range 64).countP (bmap p).testBit := by
  rw [faults_eq_map_setBits, List.length_map, setBits, ← List.countP_eq_length_filter,
    ← bitPositions_map_bmapIndex_perm.countP_eq, List.countP_map]
  exact List.countP_congr fun x _ => by rw [Function.comp_apply, testBit_bmap]

/-- The placeholder stands where the table has no row, and the name is a row's otherwise (R243). -/
theorem faultEntry_name (table : List FaultRow) (j b : Fin 8) :
    ((faultEntry table j b).name = .unknown j b ∧ ∀ row ∈ table, ¬ (row.byte = j ∧ row.bit = b)) ∨
    (∃ row ∈ table, row.byte = j ∧ row.bit = b ∧ (faultEntry table j b).name = .named row.name) := by
  cases hfind : table.find? (fun r => r.byte == j && r.bit == b) with
  | none =>
    refine .inl ⟨by simp [faultEntry, faultName?, hfind], fun row hrow => ?_⟩
    simpa using List.find?_eq_none.mp hfind row hrow
  | some row =>
    obtain ⟨hbyte, hbit⟩ : row.byte = j ∧ row.bit = b := by simpa using List.find?_some hfind
    exact .inr ⟨row, List.mem_of_find?_eq_some hfind, hbyte, hbit, by simp [faultEntry, faultName?, hfind]⟩

theorem exec_decodeFaults_idle {s : State} (h : Idle s) (p : Payload) : exec (.decodeFaults p) s = .next { s with
    fault := faults s.params.faultTable p
    engErr := 0, engErrCmd := 0, engCause := 0, engDetail := 0, engWritten := 0 } := by
  show execDecodeFaults p s = _
  rw [execDecodeFaults, accept_idle h.1]
  exact congrArg _ (complete_accepted (s := { s with fault := faults s.params.faultTable p }) h)

/-- Settles O51: the entries are those of the set bits, listed in the order of their positions. -/
theorem decodeFaultsListsEverySetBit : Obligations.DecodeFaultsListsEverySetBit := by
  intro s p h
  refine ⟨_, exec_decodeFaults_idle h p, fun _ _ => exists_mem_faults_iff, faults_ascending _ p, faults_length _ p, ?_⟩
  intro e he
  obtain ⟨j, b, -, rfl⟩ := mem_faults_iff.mp he
  exact faultEntry_name _ j b

end Sys2Proof.Machine

/-! PROOFS. What the block refuses without a transport call (spec/60_exceptions.md R268 to R270, R276): an undefined
operation code, an exchange on a closed link, an operand value R98 leaves out, and a frame no slot waits for. -/

namespace Sys2Proof

/-! ### Undefined operation codes (R95, R269) -/

/-- An `OPC` is undefined exactly where it is no operation's code (R95). -/
theorem opKind?_eq_none_iff {opc : Byte} : opKind? opc = none ↔ opc ∉ OpKind.all.map OpKind.opc := by
  simp [opKind?, List.find?_eq_none]

/-- A word is undefined by its `OPC` alone, whatever follows it (R269). -/
theorem decodeOp_of_opKind?_none {opc : Byte} (h : opKind? opc = none) (operands : List Byte) :
    decodeOp (opc :: operands) = .illegal opc := by
  simp only [decodeOp, h]

namespace Machine

/-- A block that is not busy takes an undefined word as one (R269). -/
theorem fetch_illegal {s : State} {word : List Byte} {words : List (List Byte)} {opc : Byte} (hreset : s.resetLine = false)
    (hbusy : s.engBusy = false) (hinbox : s.inbox = word :: words) (hdec : decodeOp word = .illegal opc) :
    fetch s = .illegal { s with inbox := words } := by
  simp [fetch, hreset, hbusy, hinbox, hdec]

/-- On an idle block an error other than `ExchangeFailed` writes its code and zeros, and that is all (R262). -/
theorem raise_idle {s : State} (h : Idle s) {e : Err} (he : e ≠ .exchangeFailed) : raise e s =
    { s with engErr := errCode e, engErrCmd := 0, engCause := 0, engDetail := 0, engWritten := 0 } := by
  rw [← raise_with_engBusy e s true, raise_accepted h he]

/-- Settles O5: the sixteen codes are those of the operation table, so the word is fetched as an undefined one. -/
theorem undefinedCodeIsIllegalOperation : Obligations.UndefinedCodeIsIllegalOperation := by
  intro s opc operands words hidle hreset hinbox hundefined
  have hkind : opKind? opc = none := opKind?_eq_none_iff.mpr hundefined
  rw [step, fetch_illegal hreset hidle.1 hinbox (decodeOp_of_opKind?_none hkind operands)]
  exact congrArg _ (raise_idle (s := { s with inbox := words }) (e := .illegalOperation) hidle (by decide))

/-! ### Operand values R98 leaves out (R270) -/

theorem pageKind?_of_one_lt {kind : Byte} (h : 1 < kind) : pageKind? kind = none := by
  rw [pageKind?, if_neg (by bv_omega), if_neg (by bv_omega)]

section
variable {s : State} (h : Idle s)
include h

theorem exec_reassemble_width {w : Byte} (hw : ¬ (w = 1 ∨ w = 2)) (count : Byte) : exec (.reassemble w count) s =
    .next { s with
      series := [], engErr := 0x0A, engErrCmd := 0, engCause := 0, engDetail := 0, engWritten := 0 } := by
  show execReassemble w count s = _
  rw [execReassemble, accept_idle h.1, if_neg hw]
  exact congrArg _ (raise_accepted (s := dropSeries s) (e := .invalidArgument) h (by decide))

theorem exec_planPages_none {kind : Byte} (hkind : pageKind? kind = none) : exec (.planPages kind) s = .next { s with
    engErr := 0x0A, engErrCmd := 0, engCause := 0, engDetail := 0, engWritten := 0 } := by
  show execPlanPages kind s = _
  rw [execPlanPages, accept_idle h.1, hkind]
  exact congrArg _ (raise_accepted h (by decide))

end

/-- Settles O30: each of the three tests its operand before anything else. -/
theorem invalidOperandsAreRefused : Obligations.InvalidOperandsAreRefused := fun _ h =>
  ⟨fun _ retries hlt => exec_cfgWrite_none h (variantOf?_of_one_lt hlt) retries,
    fun _ count hone htwo => exec_reassemble_width h (not_or.mpr ⟨hone, htwo⟩) count,
    fun _ hlt => exec_planPages_none h (pageKind?_of_one_lt hlt)⟩

/-! ### Exchanges on a closed link (R268) -/

/-- What an exchange operation on a closed link leaves: NotOpen, no reply, no event and no answer taken (R268). -/
def EndsNotOpen (s t : State) : Prop :=
  Idle t ∧ EngError .notOpen t ∧ t.reply = [] ∧ t.txbuf = s.txbuf ∧ t.history = s.history ∧ t.answers = s.answers ∧
  ExchangeFrame s t

section
variable {op : Running} (hop : op = .statusQuery ∨ op = .query ∨ op = .set ∨ op = .send) {s : State}
include hop

/-- The exchange operations that are not paginated clear the reply alone when they fail (R263). -/
theorem clearFailedExchange_unpaginated (hrun : s.running = some op) : clearFailedExchange s = dropReply s := by
  rcases hop with rfl | rfl | rfl | rfl <;> simp [clearFailedExchange, hrun]

/-- Such an exchange on a closed link is CHECK and FINISH: it latches its operands and ends with NotOpen (R150, R268). -/
theorem settle_startExchange_closed (h : Idle s) (hlink : s.link = false) (cmd : Byte) (extra : List Byte) (n r : Byte) :
    settle (startExchange op cmd extra n r { s with engBusy := true }) = { latchedExchange cmd extra n r s with
      reply := [], engErr := errCode .notOpen, engErrCmd := 0, engCause := 0, engDetail := 0, engWritten := 0 } := by
  rw [settle_advance (advance_check rfl), checkStep_closed (by exact hlink), settle_finish rfl, finishStep,
    clearFailedExchange_unpaginated hop rfl]
  exact raise_accepted (s := dropReply (latchedExchange cmd extra n r s)) (e := .notOpen) h (by decide)

theorem settle_endsNotOpen (h : Idle s) (hlink : s.link = false) (cmd : Byte) (extra : List Byte) (n r : Byte) :
    EndsNotOpen s (settle (startExchange op cmd extra n r { s with engBusy := true })) := by
  rw [settle_startExchange_closed hop h hlink]
  refine ⟨h, ?_⟩
  simp [latchedExchange, EngError, ExchangeFrame, SamePorts, SameSession, SameConfig, SameOtherResults, SamePages]

end

/-- Settles O38: CHECK tests the link before the operands, and a paginated query tests the session before its exchange. -/
theorem exchangeOperationsNeedAnOpenLink : Obligations.ExchangeOperationsNeedAnOpenLink := by
  intro s i h hlink
  refine ⟨?_, fun hinv hpaginated => ?_⟩
  · rintro (rfl | ⟨cmd, rfl⟩ | ⟨cmd, extra, rfl⟩ | ⟨cmd, n, r, extra, rfl⟩)
    · exact ⟨_, exec_statusQuery_idle h.1, settle_endsNotOpen (.inl rfl) h hlink _ _ _ _⟩
    · exact ⟨_, exec_query_idle h.1 cmd, settle_endsNotOpen (.inr (.inl rfl)) h hlink _ _ _ _⟩
    · exact ⟨_, exec_set_idle h.1 cmd extra, settle_endsNotOpen (.inr (.inr (.inl rfl))) h hlink _ _ _ _⟩
    · exact ⟨_, exec_send_idle h.1 cmd n r extra, settle_endsNotOpen (.inr (.inr (.inr rfl))) h hlink _ _ _ _⟩
  · obtain ⟨hsession, -, -⟩ := hinv
    obtain ⟨-, -, hends⟩ := sessionOperationsNeedASession s h (hsession hlink)
    exact ⟨_, hends i hpaginated, h, ⟨rfl, rfl, rfl, rfl, rfl⟩, rfl, rfl, rfl, rfl, rfl⟩

/-! ### Frames no slot waits for (R276) -/

/-- Settles O54: a frame row's meaning is the arrival of its bytes, which only a waiting slot reads. -/
theorem aFrameOutsideASlotIsLeftInTheTransport : Obligations.AFrameOutsideASlotIsLeftInTheTransport := by
  intro s c start addr ck p hwait
  rw [exec_wireInstr, receiveFrame, if_neg (by simp [hwait])]

end Machine

end Sys2Proof

/-! PROOFS. Reset and hazards (spec/70_reset_and_hazards.md R290, R292, R295, R301): what a step does while reset is
asserted, while a transport call has not returned, and with a word that arrives while an operation runs. -/

namespace Sys2Proof.Machine

/-! ### A transport call that has not returned (R301) -/

/-- One of the link operations' three calls waits for its answer (R211, R212). -/
theorem advance_link_waiting {s : State} (hfsm : s.fsm = .idle) (hans : s.answers = [])
    (hrun : s.running = some .openClosing ∨ s.running = some .openOpening ∨ s.running = some .closing) :
    advance s = none := by
  rcases hrun with hrun | hrun | hrun <;> simp [advance, hfsm, hrun, withAnswer_nil hans]

/-- Where the transport has answered nothing, no frame has arrived (R155). -/
theorem slotFrame_unanswered {s : State} (hans : s.answers = []) : slotFrame? s = none := by
  rw [Option.eq_none_iff_forall_ne_some]
  rintro ⟨i, u⟩ hframe
  obtain ⟨c, start, addr, p, ck, a, rest, -, -, hanswers, -⟩ := slotFrame_some hframe
  exact List.cons_ne_nil a rest (hanswers.symm.trans hans)

/-- A running operation with no transition to make waits (R301). -/
theorem fetch_waiting {s : State} (hreset : s.resetLine = false) (hbusy : s.engBusy = true)
    (hslot : slotFrame? s = none) (hadv : advance s = none) : fetch s = .waiting := by
  simp [fetch, hreset, hbusy, hslot, hadv]

/-- Settles O9: with no answer no call makes a transition, so the step fetches none. -/
theorem anUnansweredCallLeavesTheBlockBusy : Obligations.AnUnansweredCallLeavesTheBlockBusy := by
  intro s hreset hbusy hans hcall
  have hadv : advance s = none := by
    rcases hcall with hdrain | hwrite | ⟨hcollect, hslots⟩ | ⟨hidle, hrun⟩
    · exact advance_waiting hans (.inl hdrain)
    · exact advance_waiting hans (.inr hwrite)
    · exact advance_slot_waiting hcollect hslots hans
    · exact advance_link_waiting hidle hans hrun
  rw [step, fetch_waiting hreset hbusy (slotFrame_unanswered hans) hadv]

/-! ### An operation issued while another runs (R295) -/

/-- Every host operation is accepted, or held, under its own word (R35, R295). -/
theorem exec_eq_accept {i : Instr} (hi : i.isHostOp = true) : ∃ body, ∀ s, exec i s = accept i body s := by
  cases i with
  | openLink | closeLink | cfgWrite | checksum | encode | decode | send | reassemble | planPages | statusQuery
  | queryCells | queryTemps | query | set | decodeBalancing | decodeFaults =>
    dsimp only [exec]
    exact ⟨_, fun _ => rfl⟩
  | _ => cases hi

/-- Settles O10: a busy block accepts no operation, so its word is held. -/
theorem anOperationIssuedWhileBusyIsHeld : Obligations.AnOperationIssuedWhileBusyIsHeld := by
  intro s i hbusy hi
  obtain ⟨body, hexec⟩ := exec_eq_accept hi
  rw [hexec, accept_busy hbusy, hold]

/-! ### Reset (R290, R292) -/

/-- Reset is fetched before everything else (D43). -/
theorem fetch_reset {s : State} (hreset : s.resetLine = true) : fetch s = .reset := by
  simp [fetch, hreset]

/-- Settles O12: reset is what the step fetches, whatever the block is doing. -/
theorem resetAbandonsTheOperation : Obligations.ResetAbandonsTheOperation := by
  intro s hreset
  rw [step, fetch_reset hreset, resetBlock]

end Sys2Proof.Machine
